-- ==== Sys2Proof/Word.lean ====
section
/-! DEFINITION. The two widths of the machine: the data bus is 8 bits and the address bus is 16 bits (R6, R9). -/

namespace Sys2Proof

/-- A byte, bit 0 least significant (R9). -/
abbrev Byte := BitVec 8

/-- A word: an address or the program counter (R9, R25). -/
abbrev Word := BitVec 16

end Sys2Proof
end

