-- ==== Sys2Proof/Syntax.lean ====
section
/-! DEFINITION. The instructions: one constructor per row of spec/opcode_table.json, in opcode order, those with an operand
first (the compiler bounds the tag of a constructor with fields). A name is the
mnemonic and the addressing mode (Acc, Imm, Zp, Zpx, Zpy, Abs, Abx, Aby, Izx, Izy, Rel, Ind; none where the mode is
implied, R104 to R116); where two opcodes share both, the undocumented one carries its opcode byte. An operand is the
byte or the little-endian word that follows the opcode (R101, R102). -/

namespace Sys2Proof

/-- The 256 instructions (R2, R119): `n` an immediate, `z` a zero-page address, `w` an absolute address, `r` a branch
offset. -/
inductive Instr where
  /-- $01 ORA ($nn,X): R191, R113. -/
  | oraIzx (z : Byte)
  /-- $03 SLO ($nn,X): R251, R113, undocumented. -/
  | sloIzx (z : Byte)
  /-- $04 NOP $nn: R264, R107, undocumented. -/
  | nopZp04 (z : Byte)
  /-- $05 ORA $nn: R191, R107. -/
  | oraZp (z : Byte)
  /-- $06 ASL $nn: R194, R107. -/
  | aslZp (z : Byte)
  /-- $07 SLO $nn: R251, R107, undocumented. -/
  | sloZp (z : Byte)
  /-- $09 ORA #$nn: R191, R106. -/
  | oraImm (n : Byte)
  /-- $0B ANC #$nn: R259, R106, undocumented. -/
  | ancImm0B (n : Byte)
  /-- $0C NOP $nnnn: R264, R110, undocumented. -/
  | nopAbs (w : Word)
  /-- $0D ORA $nnnn: R191, R110. -/
  | oraAbs (w : Word)
  /-- $0E ASL $nnnn: R194, R110. -/
  | aslAbs (w : Word)
  /-- $0F SLO $nnnn: R251, R110, undocumented. -/
  | sloAbs (w : Word)
  /-- $10 BPL label: R216, R115. -/
  | bplRel (r : Byte)
  /-- $11 ORA ($nn),Y: R191, R114. -/
  | oraIzy (z : Byte)
  /-- $13 SLO ($nn),Y: R251, R114, undocumented. -/
  | sloIzy (z : Byte)
  /-- $14 NOP $nn,X: R264, R108, undocumented. -/
  | nopZpx14 (z : Byte)
  /-- $15 ORA $nn,X: R191, R108. -/
  | oraZpx (z : Byte)
  /-- $16 ASL $nn,X: R194, R108. -/
  | aslZpx (z : Byte)
  /-- $17 SLO $nn,X: R251, R108, undocumented. -/
  | sloZpx (z : Byte)
  /-- $19 ORA $nnnn,Y: R191, R112. -/
  | oraAby (w : Word)
  /-- $1B SLO $nnnn,Y: R251, R112, undocumented. -/
  | sloAby (w : Word)
  /-- $1C NOP $nnnn,X: R264, R111, undocumented. -/
  | nopAbx1C (w : Word)
  /-- $1D ORA $nnnn,X: R191, R111. -/
  | oraAbx (w : Word)
  /-- $1E ASL $nnnn,X: R194, R111. -/
  | aslAbx (w : Word)
  /-- $1F SLO $nnnn,X: R251, R111, undocumented. -/
  | sloAbx (w : Word)
  /-- $20 JSR $nnnn: R221, R110. -/
  | jsrAbs (w : Word)
  /-- $21 AND ($nn,X): R190, R113. -/
  | andIzx (z : Byte)
  /-- $23 RLA ($nn,X): R252, R113, undocumented. -/
  | rlaIzx (z : Byte)
  /-- $24 BIT $nn: R193, R107. -/
  | bitZp (z : Byte)
  /-- $25 AND $nn: R190, R107. -/
  | andZp (z : Byte)
  /-- $26 ROL $nn: R196, R107. -/
  | rolZp (z : Byte)
  /-- $27 RLA $nn: R252, R107, undocumented. -/
  | rlaZp (z : Byte)
  /-- $29 AND #$nn: R190, R106. -/
  | andImm (n : Byte)
  /-- $2B ANC #$nn: R259, R106, undocumented. -/
  | ancImm2B (n : Byte)
  /-- $2C BIT $nnnn: R193, R110. -/
  | bitAbs (w : Word)
  /-- $2D AND $nnnn: R190, R110. -/
  | andAbs (w : Word)
  /-- $2E ROL $nnnn: R196, R110. -/
  | rolAbs (w : Word)
  /-- $2F RLA $nnnn: R252, R110, undocumented. -/
  | rlaAbs (w : Word)
  /-- $30 BMI label: R215, R115. -/
  | bmiRel (r : Byte)
  /-- $31 AND ($nn),Y: R190, R114. -/
  | andIzy (z : Byte)
  /-- $33 RLA ($nn),Y: R252, R114, undocumented. -/
  | rlaIzy (z : Byte)
  /-- $34 NOP $nn,X: R264, R108, undocumented. -/
  | nopZpx34 (z : Byte)
  /-- $35 AND $nn,X: R190, R108. -/
  | andZpx (z : Byte)
  /-- $36 ROL $nn,X: R196, R108. -/
  | rolZpx (z : Byte)
  /-- $37 RLA $nn,X: R252, R108, undocumented. -/
  | rlaZpx (z : Byte)
  /-- $39 AND $nnnn,Y: R190, R112. -/
  | andAby (w : Word)
  /-- $3B RLA $nnnn,Y: R252, R112, undocumented. -/
  | rlaAby (w : Word)
  /-- $3C NOP $nnnn,X: R264, R111, undocumented. -/
  | nopAbx3C (w : Word)
  /-- $3D AND $nnnn,X: R190, R111. -/
  | andAbx (w : Word)
  /-- $3E ROL $nnnn,X: R196, R111. -/
  | rolAbx (w : Word)
  /-- $3F RLA $nnnn,X: R252, R111, undocumented. -/
  | rlaAbx (w : Word)
  /-- $41 EOR ($nn,X): R192, R113. -/
  | eorIzx (z : Byte)
  /-- $43 SRE ($nn,X): R253, R113, undocumented. -/
  | sreIzx (z : Byte)
  /-- $44 NOP $nn: R264, R107, undocumented. -/
  | nopZp44 (z : Byte)
  /-- $45 EOR $nn: R192, R107. -/
  | eorZp (z : Byte)
  /-- $46 LSR $nn: R195, R107. -/
  | lsrZp (z : Byte)
  /-- $47 SRE $nn: R253, R107, undocumented. -/
  | sreZp (z : Byte)
  /-- $49 EOR #$nn: R192, R106. -/
  | eorImm (n : Byte)
  /-- $4B ALR #$nn: R260, R106, undocumented. -/
  | alrImm (n : Byte)
  /-- $4C JMP $nnnn: R219, R110. -/
  | jmpAbs (w : Word)
  /-- $4D EOR $nnnn: R192, R110. -/
  | eorAbs (w : Word)
  /-- $4E LSR $nnnn: R195, R110. -/
  | lsrAbs (w : Word)
  /-- $4F SRE $nnnn: R253, R110, undocumented. -/
  | sreAbs (w : Word)
  /-- $50 BVC label: R217, R115. -/
  | bvcRel (r : Byte)
  /-- $51 EOR ($nn),Y: R192, R114. -/
  | eorIzy (z : Byte)
  /-- $53 SRE ($nn),Y: R253, R114, undocumented. -/
  | sreIzy (z : Byte)
  /-- $54 NOP $nn,X: R264, R108, undocumented. -/
  | nopZpx54 (z : Byte)
  /-- $55 EOR $nn,X: R192, R108. -/
  | eorZpx (z : Byte)
  /-- $56 LSR $nn,X: R195, R108. -/
  | lsrZpx (z : Byte)
  /-- $57 SRE $nn,X: R253, R108, undocumented. -/
  | sreZpx (z : Byte)
  /-- $59 EOR $nnnn,Y: R192, R112. -/
  | eorAby (w : Word)
  /-- $5B SRE $nnnn,Y: R253, R112, undocumented. -/
  | sreAby (w : Word)
  /-- $5C NOP $nnnn,X: R264, R111, undocumented. -/
  | nopAbx5C (w : Word)
  /-- $5D EOR $nnnn,X: R192, R111. -/
  | eorAbx (w : Word)
  /-- $5E LSR $nnnn,X: R195, R111. -/
  | lsrAbx (w : Word)
  /-- $5F SRE $nnnn,X: R253, R111, undocumented. -/
  | sreAbx (w : Word)
  /-- $61 ADC ($nn,X): R170, R113. -/
  | adcIzx (z : Byte)
  /-- $63 RRA ($nn,X): R254, R113, undocumented. -/
  | rraIzx (z : Byte)
  /-- $64 NOP $nn: R264, R107, undocumented. -/
  | nopZp64 (z : Byte)
  /-- $65 ADC $nn: R170, R107. -/
  | adcZp (z : Byte)
  /-- $66 ROR $nn: R197, R107. -/
  | rorZp (z : Byte)
  /-- $67 RRA $nn: R254, R107, undocumented. -/
  | rraZp (z : Byte)
  /-- $69 ADC #$nn: R170, R106. -/
  | adcImm (n : Byte)
  /-- $6B ARR #$nn: R261, R106, undocumented. -/
  | arrImm (n : Byte)
  /-- $6C JMP ($nnnn): R220, R116. -/
  | jmpInd (w : Word)
  /-- $6D ADC $nnnn: R170, R110. -/
  | adcAbs (w : Word)
  /-- $6E ROR $nnnn: R197, R110. -/
  | rorAbs (w : Word)
  /-- $6F RRA $nnnn: R254, R110, undocumented. -/
  | rraAbs (w : Word)
  /-- $70 BVS label: R218, R115. -/
  | bvsRel (r : Byte)
  /-- $71 ADC ($nn),Y: R170, R114. -/
  | adcIzy (z : Byte)
  /-- $73 RRA ($nn),Y: R254, R114, undocumented. -/
  | rraIzy (z : Byte)
  /-- $74 NOP $nn,X: R264, R108, undocumented. -/
  | nopZpx74 (z : Byte)
  /-- $75 ADC $nn,X: R170, R108. -/
  | adcZpx (z : Byte)
  /-- $76 ROR $nn,X: R197, R108. -/
  | rorZpx (z : Byte)
  /-- $77 RRA $nn,X: R254, R108, undocumented. -/
  | rraZpx (z : Byte)
  /-- $79 ADC $nnnn,Y: R170, R112. -/
  | adcAby (w : Word)
  /-- $7B RRA $nnnn,Y: R254, R112, undocumented. -/
  | rraAby (w : Word)
  /-- $7C NOP $nnnn,X: R264, R111, undocumented. -/
  | nopAbx7C (w : Word)
  /-- $7D ADC $nnnn,X: R170, R111. -/
  | adcAbx (w : Word)
  /-- $7E ROR $nnnn,X: R197, R111. -/
  | rorAbx (w : Word)
  /-- $7F RRA $nnnn,X: R254, R111, undocumented. -/
  | rraAbx (w : Word)
  /-- $80 NOP #$nn: R264, R106, undocumented. -/
  | nopImm80 (n : Byte)
  /-- $81 STA ($nn,X): R143, R113. -/
  | staIzx (z : Byte)
  /-- $82 NOP #$nn: R264, R106, undocumented. -/
  | nopImm82 (n : Byte)
  /-- $83 SAX ($nn,X): R255, R113, undocumented. -/
  | saxIzx (z : Byte)
  /-- $84 STY $nn: R145, R107. -/
  | styZp (z : Byte)
  /-- $85 STA $nn: R143, R107. -/
  | staZp (z : Byte)
  /-- $86 STX $nn: R144, R107. -/
  | stxZp (z : Byte)
  /-- $87 SAX $nn: R255, R107, undocumented. -/
  | saxZp (z : Byte)
  /-- $89 NOP #$nn: R264, R106, undocumented. -/
  | nopImm89 (n : Byte)
  /-- $8B ANE #$nn: R266, R106, undocumented. -/
  | aneImm (n : Byte)
  /-- $8C STY $nnnn: R145, R110. -/
  | styAbs (w : Word)
  /-- $8D STA $nnnn: R143, R110. -/
  | staAbs (w : Word)
  /-- $8E STX $nnnn: R144, R110. -/
  | stxAbs (w : Word)
  /-- $8F SAX $nnnn: R255, R110, undocumented. -/
  | saxAbs (w : Word)
  /-- $90 BCC label: R211, R115. -/
  | bccRel (r : Byte)
  /-- $91 STA ($nn),Y: R143, R114. -/
  | staIzy (z : Byte)
  /-- $93 SHA ($nn),Y: R268, R114, undocumented. -/
  | shaIzy (z : Byte)
  /-- $94 STY $nn,X: R145, R108. -/
  | styZpx (z : Byte)
  /-- $95 STA $nn,X: R143, R108. -/
  | staZpx (z : Byte)
  /-- $96 STX $nn,Y: R144, R109. -/
  | stxZpy (z : Byte)
  /-- $97 SAX $nn,Y: R255, R109, undocumented. -/
  | saxZpy (z : Byte)
  /-- $99 STA $nnnn,Y: R143, R112. -/
  | staAby (w : Word)
  /-- $9B TAS $nnnn,Y: R271, R112, undocumented. -/
  | tasAby (w : Word)
  /-- $9C SHY $nnnn,X: R270, R111, undocumented. -/
  | shyAbx (w : Word)
  /-- $9D STA $nnnn,X: R143, R111. -/
  | staAbx (w : Word)
  /-- $9E SHX $nnnn,Y: R269, R112, undocumented. -/
  | shxAby (w : Word)
  /-- $9F SHA $nnnn,Y: R268, R112, undocumented. -/
  | shaAby (w : Word)
  /-- $A0 LDY #$nn: R142, R106. -/
  | ldyImm (n : Byte)
  /-- $A1 LDA ($nn,X): R140, R113. -/
  | ldaIzx (z : Byte)
  /-- $A2 LDX #$nn: R141, R106. -/
  | ldxImm (n : Byte)
  /-- $A3 LAX ($nn,X): R256, R113, undocumented. -/
  | laxIzx (z : Byte)
  /-- $A4 LDY $nn: R142, R107. -/
  | ldyZp (z : Byte)
  /-- $A5 LDA $nn: R140, R107. -/
  | ldaZp (z : Byte)
  /-- $A6 LDX $nn: R141, R107. -/
  | ldxZp (z : Byte)
  /-- $A7 LAX $nn: R256, R107, undocumented. -/
  | laxZp (z : Byte)
  /-- $A9 LDA #$nn: R140, R106. -/
  | ldaImm (n : Byte)
  /-- $AB LXA #$nn: R267, R106, undocumented. -/
  | lxaImm (n : Byte)
  /-- $AC LDY $nnnn: R142, R110. -/
  | ldyAbs (w : Word)
  /-- $AD LDA $nnnn: R140, R110. -/
  | ldaAbs (w : Word)
  /-- $AE LDX $nnnn: R141, R110. -/
  | ldxAbs (w : Word)
  /-- $AF LAX $nnnn: R256, R110, undocumented. -/
  | laxAbs (w : Word)
  /-- $B0 BCS label: R212, R115. -/
  | bcsRel (r : Byte)
  /-- $B1 LDA ($nn),Y: R140, R114. -/
  | ldaIzy (z : Byte)
  /-- $B3 LAX ($nn),Y: R256, R114, undocumented. -/
  | laxIzy (z : Byte)
  /-- $B4 LDY $nn,X: R142, R108. -/
  | ldyZpx (z : Byte)
  /-- $B5 LDA $nn,X: R140, R108. -/
  | ldaZpx (z : Byte)
  /-- $B6 LDX $nn,Y: R141, R109. -/
  | ldxZpy (z : Byte)
  /-- $B7 LAX $nn,Y: R256, R109, undocumented. -/
  | laxZpy (z : Byte)
  /-- $B9 LDA $nnnn,Y: R140, R112. -/
  | ldaAby (w : Word)
  /-- $BB LAS $nnnn,Y: R265, R112, undocumented. -/
  | lasAby (w : Word)
  /-- $BC LDY $nnnn,X: R142, R111. -/
  | ldyAbx (w : Word)
  /-- $BD LDA $nnnn,X: R140, R111. -/
  | ldaAbx (w : Word)
  /-- $BE LDX $nnnn,Y: R141, R112. -/
  | ldxAby (w : Word)
  /-- $BF LAX $nnnn,Y: R256, R112, undocumented. -/
  | laxAby (w : Word)
  /-- $C0 CPY #$nn: R174, R106. -/
  | cpyImm (n : Byte)
  /-- $C1 CMP ($nn,X): R172, R113. -/
  | cmpIzx (z : Byte)
  /-- $C2 NOP #$nn: R264, R106, undocumented. -/
  | nopImmC2 (n : Byte)
  /-- $C3 DCP ($nn,X): R257, R113, undocumented. -/
  | dcpIzx (z : Byte)
  /-- $C4 CPY $nn: R174, R107. -/
  | cpyZp (z : Byte)
  /-- $C5 CMP $nn: R172, R107. -/
  | cmpZp (z : Byte)
  /-- $C6 DEC $nn: R176, R107. -/
  | decZp (z : Byte)
  /-- $C7 DCP $nn: R257, R107, undocumented. -/
  | dcpZp (z : Byte)
  /-- $C9 CMP #$nn: R172, R106. -/
  | cmpImm (n : Byte)
  /-- $CB AXS #$nn: R262, R106, undocumented. -/
  | axsImm (n : Byte)
  /-- $CC CPY $nnnn: R174, R110. -/
  | cpyAbs (w : Word)
  /-- $CD CMP $nnnn: R172, R110. -/
  | cmpAbs (w : Word)
  /-- $CE DEC $nnnn: R176, R110. -/
  | decAbs (w : Word)
  /-- $CF DCP $nnnn: R257, R110, undocumented. -/
  | dcpAbs (w : Word)
  /-- $D0 BNE label: R214, R115. -/
  | bneRel (r : Byte)
  /-- $D1 CMP ($nn),Y: R172, R114. -/
  | cmpIzy (z : Byte)
  /-- $D3 DCP ($nn),Y: R257, R114, undocumented. -/
  | dcpIzy (z : Byte)
  /-- $D4 NOP $nn,X: R264, R108, undocumented. -/
  | nopZpxD4 (z : Byte)
  /-- $D5 CMP $nn,X: R172, R108. -/
  | cmpZpx (z : Byte)
  /-- $D6 DEC $nn,X: R176, R108. -/
  | decZpx (z : Byte)
  /-- $D7 DCP $nn,X: R257, R108, undocumented. -/
  | dcpZpx (z : Byte)
  /-- $D9 CMP $nnnn,Y: R172, R112. -/
  | cmpAby (w : Word)
  /-- $DB DCP $nnnn,Y: R257, R112, undocumented. -/
  | dcpAby (w : Word)
  /-- $DC NOP $nnnn,X: R264, R111, undocumented. -/
  | nopAbxDC (w : Word)
  /-- $DD CMP $nnnn,X: R172, R111. -/
  | cmpAbx (w : Word)
  /-- $DE DEC $nnnn,X: R176, R111. -/
  | decAbx (w : Word)
  /-- $DF DCP $nnnn,X: R257, R111, undocumented. -/
  | dcpAbx (w : Word)
  /-- $E0 CPX #$nn: R173, R106. -/
  | cpxImm (n : Byte)
  /-- $E1 SBC ($nn,X): R171, R113. -/
  | sbcIzx (z : Byte)
  /-- $E2 NOP #$nn: R264, R106, undocumented. -/
  | nopImmE2 (n : Byte)
  /-- $E3 ISC ($nn,X): R258, R113, undocumented. -/
  | iscIzx (z : Byte)
  /-- $E4 CPX $nn: R173, R107. -/
  | cpxZp (z : Byte)
  /-- $E5 SBC $nn: R171, R107. -/
  | sbcZp (z : Byte)
  /-- $E6 INC $nn: R175, R107. -/
  | incZp (z : Byte)
  /-- $E7 ISC $nn: R258, R107, undocumented. -/
  | iscZp (z : Byte)
  /-- $E9 SBC #$nn: R171, R106. -/
  | sbcImm (n : Byte)
  /-- $EB SBC #$nn: R263, R106, undocumented. -/
  | sbcImmEB (n : Byte)
  /-- $EC CPX $nnnn: R173, R110. -/
  | cpxAbs (w : Word)
  /-- $ED SBC $nnnn: R171, R110. -/
  | sbcAbs (w : Word)
  /-- $EE INC $nnnn: R175, R110. -/
  | incAbs (w : Word)
  /-- $EF ISC $nnnn: R258, R110, undocumented. -/
  | iscAbs (w : Word)
  /-- $F0 BEQ label: R213, R115. -/
  | beqRel (r : Byte)
  /-- $F1 SBC ($nn),Y: R171, R114. -/
  | sbcIzy (z : Byte)
  /-- $F3 ISC ($nn),Y: R258, R114, undocumented. -/
  | iscIzy (z : Byte)
  /-- $F4 NOP $nn,X: R264, R108, undocumented. -/
  | nopZpxF4 (z : Byte)
  /-- $F5 SBC $nn,X: R171, R108. -/
  | sbcZpx (z : Byte)
  /-- $F6 INC $nn,X: R175, R108. -/
  | incZpx (z : Byte)
  /-- $F7 ISC $nn,X: R258, R108, undocumented. -/
  | iscZpx (z : Byte)
  /-- $F9 SBC $nnnn,Y: R171, R112. -/
  | sbcAby (w : Word)
  /-- $FB ISC $nnnn,Y: R258, R112, undocumented. -/
  | iscAby (w : Word)
  /-- $FC NOP $nnnn,X: R264, R111, undocumented. -/
  | nopAbxFC (w : Word)
  /-- $FD SBC $nnnn,X: R171, R111. -/
  | sbcAbx (w : Word)
  /-- $FE INC $nnnn,X: R175, R111. -/
  | incAbx (w : Word)
  /-- $FF ISC $nnnn,X: R258, R111, undocumented. -/
  | iscAbx (w : Word)
  /-- $00 BRK: R238, R104. -/
  | brk
  /-- $02 JAM: R276, R104, undocumented. -/
  | jam02
  /-- $08 PHP: R161, R104. -/
  | php
  /-- $0A ASL A: R194, R105. -/
  | aslAcc
  /-- $12 JAM: R276, R104, undocumented. -/
  | jam12
  /-- $18 CLC: R230, R104. -/
  | clc
  /-- $1A NOP: R264, R104, undocumented. -/
  | nop1A
  /-- $22 JAM: R276, R104, undocumented. -/
  | jam22
  /-- $28 PLP: R163, R104. -/
  | plp
  /-- $2A ROL A: R196, R105. -/
  | rolAcc
  /-- $32 JAM: R276, R104, undocumented. -/
  | jam32
  /-- $38 SEC: R231, R104. -/
  | sec
  /-- $3A NOP: R264, R104, undocumented. -/
  | nop3A
  /-- $40 RTI: R239, R104. -/
  | rti
  /-- $42 JAM: R276, R104, undocumented. -/
  | jam42
  /-- $48 PHA: R160, R104. -/
  | pha
  /-- $4A LSR A: R195, R105. -/
  | lsrAcc
  /-- $52 JAM: R276, R104, undocumented. -/
  | jam52
  /-- $58 CLI: R232, R104. -/
  | cli
  /-- $5A NOP: R264, R104, undocumented. -/
  | nop5A
  /-- $60 RTS: R222, R104. -/
  | rts
  /-- $62 JAM: R276, R104, undocumented. -/
  | jam62
  /-- $68 PLA: R162, R104. -/
  | pla
  /-- $6A ROR A: R197, R105. -/
  | rorAcc
  /-- $72 JAM: R276, R104, undocumented. -/
  | jam72
  /-- $78 SEI: R233, R104. -/
  | sei
  /-- $7A NOP: R264, R104, undocumented. -/
  | nop7A
  /-- $88 DEY: R180, R104. -/
  | dey
  /-- $8A TXA: R148, R104. -/
  | txa
  /-- $92 JAM: R276, R104, undocumented. -/
  | jam92
  /-- $98 TYA: R149, R104. -/
  | tya
  /-- $9A TXS: R151, R104. -/
  | txs
  /-- $A8 TAY: R147, R104. -/
  | tay
  /-- $AA TAX: R146, R104. -/
  | tax
  /-- $B2 JAM: R276, R104, undocumented. -/
  | jamB2
  /-- $B8 CLV: R236, R104. -/
  | clv
  /-- $BA TSX: R150, R104. -/
  | tsx
  /-- $C8 INY: R178, R104. -/
  | iny
  /-- $CA DEX: R179, R104. -/
  | dex
  /-- $D2 JAM: R276, R104, undocumented. -/
  | jamD2
  /-- $D8 CLD: R234, R104. -/
  | cld
  /-- $DA NOP: R264, R104, undocumented. -/
  | nopDA
  /-- $E8 INX: R177, R104. -/
  | inx
  /-- $EA NOP: R237, R104. -/
  | nop
  /-- $F2 JAM: R276, R104, undocumented. -/
  | jamF2
  /-- $F8 SED: R235, R104. -/
  | sed
  /-- $FA NOP: R264, R104, undocumented. -/
  | nopFA
deriving DecidableEq, Repr

end Sys2Proof
end

