-- ==== Sys2Proof/Decode.lean ====
section
/-! DEFINITION. Decoding and encoding (30_encoding.md): the opcode matrix of R119, a decoder that is total on bytes, an
encoder written from the Encoding lines of the instruction rules, and the byte and word helpers of R9 and R102. -/

namespace Sys2Proof

/-- The word `{h, l}` (R9), low byte first in memory (R72). -/
def wordOf (l h : Byte) : Word := h ++ l

/-- `lo(w)` (R9). -/
def loByte (w : Word) : Byte := w.extractLsb' 0 8

/-- `hi(w)` (R9). -/
def hiByte (w : Word) : Byte := w.extractLsb' 8 8

/-- `zext_16(b)` (R9). -/
def zext16 (b : Byte) : Word := b.zeroExtend 16

/-- `sext_16(b)` (R9): the offset of a branch (R102). -/
def sext16 (b : Byte) : Word := b.signExtend 16

/-- What follows an opcode byte (R101): nothing (F1), one byte (F2) or two (F3). -/
inductive Shape where
  | plain (i : Instr)
  | byte (f : Byte → Instr)
  | word (f : Word → Instr)

/-- Row 0x of the opcode map (R119); the last arm is column xF. -/
def matrixRow0 (lo : Nat) : Shape :=
  match lo with
  | 0 => .plain .brk
  | 1 => .byte .oraIzx
  | 2 => .plain .jam02
  | 3 => .byte .sloIzx
  | 4 => .byte .nopZp04
  | 5 => .byte .oraZp
  | 6 => .byte .aslZp
  | 7 => .byte .sloZp
  | 8 => .plain .php
  | 9 => .byte .oraImm
  | 10 => .plain .aslAcc
  | 11 => .byte .ancImm0B
  | 12 => .word .nopAbs
  | 13 => .word .oraAbs
  | 14 => .word .aslAbs
  | _ => .word .sloAbs

/-- Row 1x of the opcode map (R119); the last arm is column xF. -/
def matrixRow1 (lo : Nat) : Shape :=
  match lo with
  | 0 => .byte .bplRel
  | 1 => .byte .oraIzy
  | 2 => .plain .jam12
  | 3 => .byte .sloIzy
  | 4 => .byte .nopZpx14
  | 5 => .byte .oraZpx
  | 6 => .byte .aslZpx
  | 7 => .byte .sloZpx
  | 8 => .plain .clc
  | 9 => .word .oraAby
  | 10 => .plain .nop1A
  | 11 => .word .sloAby
  | 12 => .word .nopAbx1C
  | 13 => .word .oraAbx
  | 14 => .word .aslAbx
  | _ => .word .sloAbx

/-- Row 2x of the opcode map (R119); the last arm is column xF. -/
def matrixRow2 (lo : Nat) : Shape :=
  match lo with
  | 0 => .word .jsrAbs
  | 1 => .byte .andIzx
  | 2 => .plain .jam22
  | 3 => .byte .rlaIzx
  | 4 => .byte .bitZp
  | 5 => .byte .andZp
  | 6 => .byte .rolZp
  | 7 => .byte .rlaZp
  | 8 => .plain .plp
  | 9 => .byte .andImm
  | 10 => .plain .rolAcc
  | 11 => .byte .ancImm2B
  | 12 => .word .bitAbs
  | 13 => .word .andAbs
  | 14 => .word .rolAbs
  | _ => .word .rlaAbs

/-- Row 3x of the opcode map (R119); the last arm is column xF. -/
def matrixRow3 (lo : Nat) : Shape :=
  match lo with
  | 0 => .byte .bmiRel
  | 1 => .byte .andIzy
  | 2 => .plain .jam32
  | 3 => .byte .rlaIzy
  | 4 => .byte .nopZpx34
  | 5 => .byte .andZpx
  | 6 => .byte .rolZpx
  | 7 => .byte .rlaZpx
  | 8 => .plain .sec
  | 9 => .word .andAby
  | 10 => .plain .nop3A
  | 11 => .word .rlaAby
  | 12 => .word .nopAbx3C
  | 13 => .word .andAbx
  | 14 => .word .rolAbx
  | _ => .word .rlaAbx

/-- Row 4x of the opcode map (R119); the last arm is column xF. -/
def matrixRow4 (lo : Nat) : Shape :=
  match lo with
  | 0 => .plain .rti
  | 1 => .byte .eorIzx
  | 2 => .plain .jam42
  | 3 => .byte .sreIzx
  | 4 => .byte .nopZp44
  | 5 => .byte .eorZp
  | 6 => .byte .lsrZp
  | 7 => .byte .sreZp
  | 8 => .plain .pha
  | 9 => .byte .eorImm
  | 10 => .plain .lsrAcc
  | 11 => .byte .alrImm
  | 12 => .word .jmpAbs
  | 13 => .word .eorAbs
  | 14 => .word .lsrAbs
  | _ => .word .sreAbs

/-- Row 5x of the opcode map (R119); the last arm is column xF. -/
def matrixRow5 (lo : Nat) : Shape :=
  match lo with
  | 0 => .byte .bvcRel
  | 1 => .byte .eorIzy
  | 2 => .plain .jam52
  | 3 => .byte .sreIzy
  | 4 => .byte .nopZpx54
  | 5 => .byte .eorZpx
  | 6 => .byte .lsrZpx
  | 7 => .byte .sreZpx
  | 8 => .plain .cli
  | 9 => .word .eorAby
  | 10 => .plain .nop5A
  | 11 => .word .sreAby
  | 12 => .word .nopAbx5C
  | 13 => .word .eorAbx
  | 14 => .word .lsrAbx
  | _ => .word .sreAbx

/-- Row 6x of the opcode map (R119); the last arm is column xF. -/
def matrixRow6 (lo : Nat) : Shape :=
  match lo with
  | 0 => .plain .rts
  | 1 => .byte .adcIzx
  | 2 => .plain .jam62
  | 3 => .byte .rraIzx
  | 4 => .byte .nopZp64
  | 5 => .byte .adcZp
  | 6 => .byte .rorZp
  | 7 => .byte .rraZp
  | 8 => .plain .pla
  | 9 => .byte .adcImm
  | 10 => .plain .rorAcc
  | 11 => .byte .arrImm
  | 12 => .word .jmpInd
  | 13 => .word .adcAbs
  | 14 => .word .rorAbs
  | _ => .word .rraAbs

/-- Row 7x of the opcode map (R119); the last arm is column xF. -/
def matrixRow7 (lo : Nat) : Shape :=
  match lo with
  | 0 => .byte .bvsRel
  | 1 => .byte .adcIzy
  | 2 => .plain .jam72
  | 3 => .byte .rraIzy
  | 4 => .byte .nopZpx74
  | 5 => .byte .adcZpx
  | 6 => .byte .rorZpx
  | 7 => .byte .rraZpx
  | 8 => .plain .sei
  | 9 => .word .adcAby
  | 10 => .plain .nop7A
  | 11 => .word .rraAby
  | 12 => .word .nopAbx7C
  | 13 => .word .adcAbx
  | 14 => .word .rorAbx
  | _ => .word .rraAbx

/-- Row 8x of the opcode map (R119); the last arm is column xF. -/
def matrixRow8 (lo : Nat) : Shape :=
  match lo with
  | 0 => .byte .nopImm80
  | 1 => .byte .staIzx
  | 2 => .byte .nopImm82
  | 3 => .byte .saxIzx
  | 4 => .byte .styZp
  | 5 => .byte .staZp
  | 6 => .byte .stxZp
  | 7 => .byte .saxZp
  | 8 => .plain .dey
  | 9 => .byte .nopImm89
  | 10 => .plain .txa
  | 11 => .byte .aneImm
  | 12 => .word .styAbs
  | 13 => .word .staAbs
  | 14 => .word .stxAbs
  | _ => .word .saxAbs

/-- Row 9x of the opcode map (R119); the last arm is column xF. -/
def matrixRow9 (lo : Nat) : Shape :=
  match lo with
  | 0 => .byte .bccRel
  | 1 => .byte .staIzy
  | 2 => .plain .jam92
  | 3 => .byte .shaIzy
  | 4 => .byte .styZpx
  | 5 => .byte .staZpx
  | 6 => .byte .stxZpy
  | 7 => .byte .saxZpy
  | 8 => .plain .tya
  | 9 => .word .staAby
  | 10 => .plain .txs
  | 11 => .word .tasAby
  | 12 => .word .shyAbx
  | 13 => .word .staAbx
  | 14 => .word .shxAby
  | _ => .word .shaAby

/-- Row Ax of the opcode map (R119); the last arm is column xF. -/
def matrixRowA (lo : Nat) : Shape :=
  match lo with
  | 0 => .byte .ldyImm
  | 1 => .byte .ldaIzx
  | 2 => .byte .ldxImm
  | 3 => .byte .laxIzx
  | 4 => .byte .ldyZp
  | 5 => .byte .ldaZp
  | 6 => .byte .ldxZp
  | 7 => .byte .laxZp
  | 8 => .plain .tay
  | 9 => .byte .ldaImm
  | 10 => .plain .tax
  | 11 => .byte .lxaImm
  | 12 => .word .ldyAbs
  | 13 => .word .ldaAbs
  | 14 => .word .ldxAbs
  | _ => .word .laxAbs

/-- Row Bx of the opcode map (R119); the last arm is column xF. -/
def matrixRowB (lo : Nat) : Shape :=
  match lo with
  | 0 => .byte .bcsRel
  | 1 => .byte .ldaIzy
  | 2 => .plain .jamB2
  | 3 => .byte .laxIzy
  | 4 => .byte .ldyZpx
  | 5 => .byte .ldaZpx
  | 6 => .byte .ldxZpy
  | 7 => .byte .laxZpy
  | 8 => .plain .clv
  | 9 => .word .ldaAby
  | 10 => .plain .tsx
  | 11 => .word .lasAby
  | 12 => .word .ldyAbx
  | 13 => .word .ldaAbx
  | 14 => .word .ldxAby
  | _ => .word .laxAby

/-- Row Cx of the opcode map (R119); the last arm is column xF. -/
def matrixRowC (lo : Nat) : Shape :=
  match lo with
  | 0 => .byte .cpyImm
  | 1 => .byte .cmpIzx
  | 2 => .byte .nopImmC2
  | 3 => .byte .dcpIzx
  | 4 => .byte .cpyZp
  | 5 => .byte .cmpZp
  | 6 => .byte .decZp
  | 7 => .byte .dcpZp
  | 8 => .plain .iny
  | 9 => .byte .cmpImm
  | 10 => .plain .dex
  | 11 => .byte .axsImm
  | 12 => .word .cpyAbs
  | 13 => .word .cmpAbs
  | 14 => .word .decAbs
  | _ => .word .dcpAbs

/-- Row Dx of the opcode map (R119); the last arm is column xF. -/
def matrixRowD (lo : Nat) : Shape :=
  match lo with
  | 0 => .byte .bneRel
  | 1 => .byte .cmpIzy
  | 2 => .plain .jamD2
  | 3 => .byte .dcpIzy
  | 4 => .byte .nopZpxD4
  | 5 => .byte .cmpZpx
  | 6 => .byte .decZpx
  | 7 => .byte .dcpZpx
  | 8 => .plain .cld
  | 9 => .word .cmpAby
  | 10 => .plain .nopDA
  | 11 => .word .dcpAby
  | 12 => .word .nopAbxDC
  | 13 => .word .cmpAbx
  | 14 => .word .decAbx
  | _ => .word .dcpAbx

/-- Row Ex of the opcode map (R119); the last arm is column xF. -/
def matrixRowE (lo : Nat) : Shape :=
  match lo with
  | 0 => .byte .cpxImm
  | 1 => .byte .sbcIzx
  | 2 => .byte .nopImmE2
  | 3 => .byte .iscIzx
  | 4 => .byte .cpxZp
  | 5 => .byte .sbcZp
  | 6 => .byte .incZp
  | 7 => .byte .iscZp
  | 8 => .plain .inx
  | 9 => .byte .sbcImm
  | 10 => .plain .nop
  | 11 => .byte .sbcImmEB
  | 12 => .word .cpxAbs
  | 13 => .word .sbcAbs
  | 14 => .word .incAbs
  | _ => .word .iscAbs

/-- Row Fx of the opcode map (R119); the last arm is column xF. -/
def matrixRowF (lo : Nat) : Shape :=
  match lo with
  | 0 => .byte .beqRel
  | 1 => .byte .sbcIzy
  | 2 => .plain .jamF2
  | 3 => .byte .iscIzy
  | 4 => .byte .nopZpxF4
  | 5 => .byte .sbcZpx
  | 6 => .byte .incZpx
  | 7 => .byte .iscZpx
  | 8 => .plain .sed
  | 9 => .word .sbcAby
  | 10 => .plain .nopFA
  | 11 => .word .iscAby
  | 12 => .word .nopAbxFC
  | 13 => .word .sbcAbx
  | 14 => .word .incAbx
  | _ => .word .iscAbx

/-- The opcode map (R119): high nibble down, low nibble across; nibbles are below 16, the last arm is row Fx. -/
def opcodeMatrix (hi lo : Nat) : Shape :=
  match hi with
  | 0 => matrixRow0 lo
  | 1 => matrixRow1 lo
  | 2 => matrixRow2 lo
  | 3 => matrixRow3 lo
  | 4 => matrixRow4 lo
  | 5 => matrixRow5 lo
  | 6 => matrixRow6 lo
  | 7 => matrixRow7 lo
  | 8 => matrixRow8 lo
  | 9 => matrixRow9 lo
  | 10 => matrixRowA lo
  | 11 => matrixRowB lo
  | 12 => matrixRowC lo
  | 13 => matrixRowD lo
  | 14 => matrixRowE lo
  | _ => matrixRowF lo

/-- What an opcode byte selects: "The opcode byte alone determines the instruction, its addressing mode and hence its
length; all 256 values of the opcode byte are instructions" (R100). -/
def opcodeShape (op : Byte) : Shape :=
  opcodeMatrix (op.toNat / 16) (op.toNat % 16)

/-- Number of operand bytes (R101). -/
def Shape.operands : Shape → Nat
  | .plain _ => 0
  | .byte _ => 1
  | .word _ => 2

/-- The instruction of an opcode with its operand bytes, low byte first (R102). -/
def Shape.build (b1 b2 : Byte) : Shape → Instr
  | .plain i => i
  | .byte f => f b1
  | .word f => f (wordOf b1 b2)

/-- The instruction at three consecutive bytes; the bytes past its length do not matter (R100). -/
def instrOf (b0 b1 b2 : Byte) : Instr := (opcodeShape b0).build b1 b2

/-- Why a list of bytes is no instruction: it ends too early. No byte value is rejected (R122). -/
inductive DecodeError where
  /-- no opcode byte -/
  | noOpcode
  /-- the operand of the opcode `op` is missing or cut -/
  | truncated (op : Byte)
deriving DecidableEq, Repr

/-- The instruction at the head of `bytes` and the bytes after it. -/
def decode (bytes : List Byte) : Except DecodeError (Instr × List Byte) :=
  match bytes with
  | [] => .error .noOpcode
  | op :: rest =>
    match opcodeShape op, rest with
    | .plain i, rest => .ok (i, rest)
    | .byte f, b1 :: rest => .ok (f b1, rest)
    | .word f, b1 :: b2 :: rest => .ok (f (wordOf b1 b2), rest)
    | .byte _, [] => .error (.truncated op)
    | .word _, _ => .error (.truncated op)

/-- The bytes of an instruction in memory order (R101), from the Encoding line of its rule. -/
def encode : Instr → List Byte
  | .brk => [0x00]
  | .oraIzx z => [0x01, z]
  | .jam02 => [0x02]
  | .sloIzx z => [0x03, z]
  | .nopZp04 z => [0x04, z]
  | .oraZp z => [0x05, z]
  | .aslZp z => [0x06, z]
  | .sloZp z => [0x07, z]
  | .php => [0x08]
  | .oraImm n => [0x09, n]
  | .aslAcc => [0x0A]
  | .ancImm0B n => [0x0B, n]
  | .nopAbs w => [0x0C, loByte w, hiByte w]
  | .oraAbs w => [0x0D, loByte w, hiByte w]
  | .aslAbs w => [0x0E, loByte w, hiByte w]
  | .sloAbs w => [0x0F, loByte w, hiByte w]
  | .bplRel r => [0x10, r]
  | .oraIzy z => [0x11, z]
  | .jam12 => [0x12]
  | .sloIzy z => [0x13, z]
  | .nopZpx14 z => [0x14, z]
  | .oraZpx z => [0x15, z]
  | .aslZpx z => [0x16, z]
  | .sloZpx z => [0x17, z]
  | .clc => [0x18]
  | .oraAby w => [0x19, loByte w, hiByte w]
  | .nop1A => [0x1A]
  | .sloAby w => [0x1B, loByte w, hiByte w]
  | .nopAbx1C w => [0x1C, loByte w, hiByte w]
  | .oraAbx w => [0x1D, loByte w, hiByte w]
  | .aslAbx w => [0x1E, loByte w, hiByte w]
  | .sloAbx w => [0x1F, loByte w, hiByte w]
  | .jsrAbs w => [0x20, loByte w, hiByte w]
  | .andIzx z => [0x21, z]
  | .jam22 => [0x22]
  | .rlaIzx z => [0x23, z]
  | .bitZp z => [0x24, z]
  | .andZp z => [0x25, z]
  | .rolZp z => [0x26, z]
  | .rlaZp z => [0x27, z]
  | .plp => [0x28]
  | .andImm n => [0x29, n]
  | .rolAcc => [0x2A]
  | .ancImm2B n => [0x2B, n]
  | .bitAbs w => [0x2C, loByte w, hiByte w]
  | .andAbs w => [0x2D, loByte w, hiByte w]
  | .rolAbs w => [0x2E, loByte w, hiByte w]
  | .rlaAbs w => [0x2F, loByte w, hiByte w]
  | .bmiRel r => [0x30, r]
  | .andIzy z => [0x31, z]
  | .jam32 => [0x32]
  | .rlaIzy z => [0x33, z]
  | .nopZpx34 z => [0x34, z]
  | .andZpx z => [0x35, z]
  | .rolZpx z => [0x36, z]
  | .rlaZpx z => [0x37, z]
  | .sec => [0x38]
  | .andAby w => [0x39, loByte w, hiByte w]
  | .nop3A => [0x3A]
  | .rlaAby w => [0x3B, loByte w, hiByte w]
  | .nopAbx3C w => [0x3C, loByte w, hiByte w]
  | .andAbx w => [0x3D, loByte w, hiByte w]
  | .rolAbx w => [0x3E, loByte w, hiByte w]
  | .rlaAbx w => [0x3F, loByte w, hiByte w]
  | .rti => [0x40]
  | .eorIzx z => [0x41, z]
  | .jam42 => [0x42]
  | .sreIzx z => [0x43, z]
  | .nopZp44 z => [0x44, z]
  | .eorZp z => [0x45, z]
  | .lsrZp z => [0x46, z]
  | .sreZp z => [0x47, z]
  | .pha => [0x48]
  | .eorImm n => [0x49, n]
  | .lsrAcc => [0x4A]
  | .alrImm n => [0x4B, n]
  | .jmpAbs w => [0x4C, loByte w, hiByte w]
  | .eorAbs w => [0x4D, loByte w, hiByte w]
  | .lsrAbs w => [0x4E, loByte w, hiByte w]
  | .sreAbs w => [0x4F, loByte w, hiByte w]
  | .bvcRel r => [0x50, r]
  | .eorIzy z => [0x51, z]
  | .jam52 => [0x52]
  | .sreIzy z => [0x53, z]
  | .nopZpx54 z => [0x54, z]
  | .eorZpx z => [0x55, z]
  | .lsrZpx z => [0x56, z]
  | .sreZpx z => [0x57, z]
  | .cli => [0x58]
  | .eorAby w => [0x59, loByte w, hiByte w]
  | .nop5A => [0x5A]
  | .sreAby w => [0x5B, loByte w, hiByte w]
  | .nopAbx5C w => [0x5C, loByte w, hiByte w]
  | .eorAbx w => [0x5D, loByte w, hiByte w]
  | .lsrAbx w => [0x5E, loByte w, hiByte w]
  | .sreAbx w => [0x5F, loByte w, hiByte w]
  | .rts => [0x60]
  | .adcIzx z => [0x61, z]
  | .jam62 => [0x62]
  | .rraIzx z => [0x63, z]
  | .nopZp64 z => [0x64, z]
  | .adcZp z => [0x65, z]
  | .rorZp z => [0x66, z]
  | .rraZp z => [0x67, z]
  | .pla => [0x68]
  | .adcImm n => [0x69, n]
  | .rorAcc => [0x6A]
  | .arrImm n => [0x6B, n]
  | .jmpInd w => [0x6C, loByte w, hiByte w]
  | .adcAbs w => [0x6D, loByte w, hiByte w]
  | .rorAbs w => [0x6E, loByte w, hiByte w]
  | .rraAbs w => [0x6F, loByte w, hiByte w]
  | .bvsRel r => [0x70, r]
  | .adcIzy z => [0x71, z]
  | .jam72 => [0x72]
  | .rraIzy z => [0x73, z]
  | .nopZpx74 z => [0x74, z]
  | .adcZpx z => [0x75, z]
  | .rorZpx z => [0x76, z]
  | .rraZpx z => [0x77, z]
  | .sei => [0x78]
  | .adcAby w => [0x79, loByte w, hiByte w]
  | .nop7A => [0x7A]
  | .rraAby w => [0x7B, loByte w, hiByte w]
  | .nopAbx7C w => [0x7C, loByte w, hiByte w]
  | .adcAbx w => [0x7D, loByte w, hiByte w]
  | .rorAbx w => [0x7E, loByte w, hiByte w]
  | .rraAbx w => [0x7F, loByte w, hiByte w]
  | .nopImm80 n => [0x80, n]
  | .staIzx z => [0x81, z]
  | .nopImm82 n => [0x82, n]
  | .saxIzx z => [0x83, z]
  | .styZp z => [0x84, z]
  | .staZp z => [0x85, z]
  | .stxZp z => [0x86, z]
  | .saxZp z => [0x87, z]
  | .dey => [0x88]
  | .nopImm89 n => [0x89, n]
  | .txa => [0x8A]
  | .aneImm n => [0x8B, n]
  | .styAbs w => [0x8C, loByte w, hiByte w]
  | .staAbs w => [0x8D, loByte w, hiByte w]
  | .stxAbs w => [0x8E, loByte w, hiByte w]
  | .saxAbs w => [0x8F, loByte w, hiByte w]
  | .bccRel r => [0x90, r]
  | .staIzy z => [0x91, z]
  | .jam92 => [0x92]
  | .shaIzy z => [0x93, z]
  | .styZpx z => [0x94, z]
  | .staZpx z => [0x95, z]
  | .stxZpy z => [0x96, z]
  | .saxZpy z => [0x97, z]
  | .tya => [0x98]
  | .staAby w => [0x99, loByte w, hiByte w]
  | .txs => [0x9A]
  | .tasAby w => [0x9B, loByte w, hiByte w]
  | .shyAbx w => [0x9C, loByte w, hiByte w]
  | .staAbx w => [0x9D, loByte w, hiByte w]
  | .shxAby w => [0x9E, loByte w, hiByte w]
  | .shaAby w => [0x9F, loByte w, hiByte w]
  | .ldyImm n => [0xA0, n]
  | .ldaIzx z => [0xA1, z]
  | .ldxImm n => [0xA2, n]
  | .laxIzx z => [0xA3, z]
  | .ldyZp z => [0xA4, z]
  | .ldaZp z => [0xA5, z]
  | .ldxZp z => [0xA6, z]
  | .laxZp z => [0xA7, z]
  | .tay => [0xA8]
  | .ldaImm n => [0xA9, n]
  | .tax => [0xAA]
  | .lxaImm n => [0xAB, n]
  | .ldyAbs w => [0xAC, loByte w, hiByte w]
  | .ldaAbs w => [0xAD, loByte w, hiByte w]
  | .ldxAbs w => [0xAE, loByte w, hiByte w]
  | .laxAbs w => [0xAF, loByte w, hiByte w]
  | .bcsRel r => [0xB0, r]
  | .ldaIzy z => [0xB1, z]
  | .jamB2 => [0xB2]
  | .laxIzy z => [0xB3, z]
  | .ldyZpx z => [0xB4, z]
  | .ldaZpx z => [0xB5, z]
  | .ldxZpy z => [0xB6, z]
  | .laxZpy z => [0xB7, z]
  | .clv => [0xB8]
  | .ldaAby w => [0xB9, loByte w, hiByte w]
  | .tsx => [0xBA]
  | .lasAby w => [0xBB, loByte w, hiByte w]
  | .ldyAbx w => [0xBC, loByte w, hiByte w]
  | .ldaAbx w => [0xBD, loByte w, hiByte w]
  | .ldxAby w => [0xBE, loByte w, hiByte w]
  | .laxAby w => [0xBF, loByte w, hiByte w]
  | .cpyImm n => [0xC0, n]
  | .cmpIzx z => [0xC1, z]
  | .nopImmC2 n => [0xC2, n]
  | .dcpIzx z => [0xC3, z]
  | .cpyZp z => [0xC4, z]
  | .cmpZp z => [0xC5, z]
  | .decZp z => [0xC6, z]
  | .dcpZp z => [0xC7, z]
  | .iny => [0xC8]
  | .cmpImm n => [0xC9, n]
  | .dex => [0xCA]
  | .axsImm n => [0xCB, n]
  | .cpyAbs w => [0xCC, loByte w, hiByte w]
  | .cmpAbs w => [0xCD, loByte w, hiByte w]
  | .decAbs w => [0xCE, loByte w, hiByte w]
  | .dcpAbs w => [0xCF, loByte w, hiByte w]
  | .bneRel r => [0xD0, r]
  | .cmpIzy z => [0xD1, z]
  | .jamD2 => [0xD2]
  | .dcpIzy z => [0xD3, z]
  | .nopZpxD4 z => [0xD4, z]
  | .cmpZpx z => [0xD5, z]
  | .decZpx z => [0xD6, z]
  | .dcpZpx z => [0xD7, z]
  | .cld => [0xD8]
  | .cmpAby w => [0xD9, loByte w, hiByte w]
  | .nopDA => [0xDA]
  | .dcpAby w => [0xDB, loByte w, hiByte w]
  | .nopAbxDC w => [0xDC, loByte w, hiByte w]
  | .cmpAbx w => [0xDD, loByte w, hiByte w]
  | .decAbx w => [0xDE, loByte w, hiByte w]
  | .dcpAbx w => [0xDF, loByte w, hiByte w]
  | .cpxImm n => [0xE0, n]
  | .sbcIzx z => [0xE1, z]
  | .nopImmE2 n => [0xE2, n]
  | .iscIzx z => [0xE3, z]
  | .cpxZp z => [0xE4, z]
  | .sbcZp z => [0xE5, z]
  | .incZp z => [0xE6, z]
  | .iscZp z => [0xE7, z]
  | .inx => [0xE8]
  | .sbcImm n => [0xE9, n]
  | .nop => [0xEA]
  | .sbcImmEB n => [0xEB, n]
  | .cpxAbs w => [0xEC, loByte w, hiByte w]
  | .sbcAbs w => [0xED, loByte w, hiByte w]
  | .incAbs w => [0xEE, loByte w, hiByte w]
  | .iscAbs w => [0xEF, loByte w, hiByte w]
  | .beqRel r => [0xF0, r]
  | .sbcIzy z => [0xF1, z]
  | .jamF2 => [0xF2]
  | .iscIzy z => [0xF3, z]
  | .nopZpxF4 z => [0xF4, z]
  | .sbcZpx z => [0xF5, z]
  | .incZpx z => [0xF6, z]
  | .iscZpx z => [0xF7, z]
  | .sed => [0xF8]
  | .sbcAby w => [0xF9, loByte w, hiByte w]
  | .nopFA => [0xFA]
  | .iscAby w => [0xFB, loByte w, hiByte w]
  | .nopAbxFC w => [0xFC, loByte w, hiByte w]
  | .sbcAbx w => [0xFD, loByte w, hiByte w]
  | .incAbx w => [0xFE, loByte w, hiByte w]
  | .iscAbx w => [0xFF, loByte w, hiByte w]

/-- The mnemonic of spec/opcode_table.json (R119). -/
def Instr.mnemonic : Instr → String
  | .brk => "BRK"
  | .oraIzx _ => "ORA"
  | .jam02 => "JAM"
  | .sloIzx _ => "SLO"
  | .nopZp04 _ => "NOP"
  | .oraZp _ => "ORA"
  | .aslZp _ => "ASL"
  | .sloZp _ => "SLO"
  | .php => "PHP"
  | .oraImm _ => "ORA"
  | .aslAcc => "ASL"
  | .ancImm0B _ => "ANC"
  | .nopAbs _ => "NOP"
  | .oraAbs _ => "ORA"
  | .aslAbs _ => "ASL"
  | .sloAbs _ => "SLO"
  | .bplRel _ => "BPL"
  | .oraIzy _ => "ORA"
  | .jam12 => "JAM"
  | .sloIzy _ => "SLO"
  | .nopZpx14 _ => "NOP"
  | .oraZpx _ => "ORA"
  | .aslZpx _ => "ASL"
  | .sloZpx _ => "SLO"
  | .clc => "CLC"
  | .oraAby _ => "ORA"
  | .nop1A => "NOP"
  | .sloAby _ => "SLO"
  | .nopAbx1C _ => "NOP"
  | .oraAbx _ => "ORA"
  | .aslAbx _ => "ASL"
  | .sloAbx _ => "SLO"
  | .jsrAbs _ => "JSR"
  | .andIzx _ => "AND"
  | .jam22 => "JAM"
  | .rlaIzx _ => "RLA"
  | .bitZp _ => "BIT"
  | .andZp _ => "AND"
  | .rolZp _ => "ROL"
  | .rlaZp _ => "RLA"
  | .plp => "PLP"
  | .andImm _ => "AND"
  | .rolAcc => "ROL"
  | .ancImm2B _ => "ANC"
  | .bitAbs _ => "BIT"
  | .andAbs _ => "AND"
  | .rolAbs _ => "ROL"
  | .rlaAbs _ => "RLA"
  | .bmiRel _ => "BMI"
  | .andIzy _ => "AND"
  | .jam32 => "JAM"
  | .rlaIzy _ => "RLA"
  | .nopZpx34 _ => "NOP"
  | .andZpx _ => "AND"
  | .rolZpx _ => "ROL"
  | .rlaZpx _ => "RLA"
  | .sec => "SEC"
  | .andAby _ => "AND"
  | .nop3A => "NOP"
  | .rlaAby _ => "RLA"
  | .nopAbx3C _ => "NOP"
  | .andAbx _ => "AND"
  | .rolAbx _ => "ROL"
  | .rlaAbx _ => "RLA"
  | .rti => "RTI"
  | .eorIzx _ => "EOR"
  | .jam42 => "JAM"
  | .sreIzx _ => "SRE"
  | .nopZp44 _ => "NOP"
  | .eorZp _ => "EOR"
  | .lsrZp _ => "LSR"
  | .sreZp _ => "SRE"
  | .pha => "PHA"
  | .eorImm _ => "EOR"
  | .lsrAcc => "LSR"
  | .alrImm _ => "ALR"
  | .jmpAbs _ => "JMP"
  | .eorAbs _ => "EOR"
  | .lsrAbs _ => "LSR"
  | .sreAbs _ => "SRE"
  | .bvcRel _ => "BVC"
  | .eorIzy _ => "EOR"
  | .jam52 => "JAM"
  | .sreIzy _ => "SRE"
  | .nopZpx54 _ => "NOP"
  | .eorZpx _ => "EOR"
  | .lsrZpx _ => "LSR"
  | .sreZpx _ => "SRE"
  | .cli => "CLI"
  | .eorAby _ => "EOR"
  | .nop5A => "NOP"
  | .sreAby _ => "SRE"
  | .nopAbx5C _ => "NOP"
  | .eorAbx _ => "EOR"
  | .lsrAbx _ => "LSR"
  | .sreAbx _ => "SRE"
  | .rts => "RTS"
  | .adcIzx _ => "ADC"
  | .jam62 => "JAM"
  | .rraIzx _ => "RRA"
  | .nopZp64 _ => "NOP"
  | .adcZp _ => "ADC"
  | .rorZp _ => "ROR"
  | .rraZp _ => "RRA"
  | .pla => "PLA"
  | .adcImm _ => "ADC"
  | .rorAcc => "ROR"
  | .arrImm _ => "ARR"
  | .jmpInd _ => "JMP"
  | .adcAbs _ => "ADC"
  | .rorAbs _ => "ROR"
  | .rraAbs _ => "RRA"
  | .bvsRel _ => "BVS"
  | .adcIzy _ => "ADC"
  | .jam72 => "JAM"
  | .rraIzy _ => "RRA"
  | .nopZpx74 _ => "NOP"
  | .adcZpx _ => "ADC"
  | .rorZpx _ => "ROR"
  | .rraZpx _ => "RRA"
  | .sei => "SEI"
  | .adcAby _ => "ADC"
  | .nop7A => "NOP"
  | .rraAby _ => "RRA"
  | .nopAbx7C _ => "NOP"
  | .adcAbx _ => "ADC"
  | .rorAbx _ => "ROR"
  | .rraAbx _ => "RRA"
  | .nopImm80 _ => "NOP"
  | .staIzx _ => "STA"
  | .nopImm82 _ => "NOP"
  | .saxIzx _ => "SAX"
  | .styZp _ => "STY"
  | .staZp _ => "STA"
  | .stxZp _ => "STX"
  | .saxZp _ => "SAX"
  | .dey => "DEY"
  | .nopImm89 _ => "NOP"
  | .txa => "TXA"
  | .aneImm _ => "ANE"
  | .styAbs _ => "STY"
  | .staAbs _ => "STA"
  | .stxAbs _ => "STX"
  | .saxAbs _ => "SAX"
  | .bccRel _ => "BCC"
  | .staIzy _ => "STA"
  | .jam92 => "JAM"
  | .shaIzy _ => "SHA"
  | .styZpx _ => "STY"
  | .staZpx _ => "STA"
  | .stxZpy _ => "STX"
  | .saxZpy _ => "SAX"
  | .tya => "TYA"
  | .staAby _ => "STA"
  | .txs => "TXS"
  | .tasAby _ => "TAS"
  | .shyAbx _ => "SHY"
  | .staAbx _ => "STA"
  | .shxAby _ => "SHX"
  | .shaAby _ => "SHA"
  | .ldyImm _ => "LDY"
  | .ldaIzx _ => "LDA"
  | .ldxImm _ => "LDX"
  | .laxIzx _ => "LAX"
  | .ldyZp _ => "LDY"
  | .ldaZp _ => "LDA"
  | .ldxZp _ => "LDX"
  | .laxZp _ => "LAX"
  | .tay => "TAY"
  | .ldaImm _ => "LDA"
  | .tax => "TAX"
  | .lxaImm _ => "LXA"
  | .ldyAbs _ => "LDY"
  | .ldaAbs _ => "LDA"
  | .ldxAbs _ => "LDX"
  | .laxAbs _ => "LAX"
  | .bcsRel _ => "BCS"
  | .ldaIzy _ => "LDA"
  | .jamB2 => "JAM"
  | .laxIzy _ => "LAX"
  | .ldyZpx _ => "LDY"
  | .ldaZpx _ => "LDA"
  | .ldxZpy _ => "LDX"
  | .laxZpy _ => "LAX"
  | .clv => "CLV"
  | .ldaAby _ => "LDA"
  | .tsx => "TSX"
  | .lasAby _ => "LAS"
  | .ldyAbx _ => "LDY"
  | .ldaAbx _ => "LDA"
  | .ldxAby _ => "LDX"
  | .laxAby _ => "LAX"
  | .cpyImm _ => "CPY"
  | .cmpIzx _ => "CMP"
  | .nopImmC2 _ => "NOP"
  | .dcpIzx _ => "DCP"
  | .cpyZp _ => "CPY"
  | .cmpZp _ => "CMP"
  | .decZp _ => "DEC"
  | .dcpZp _ => "DCP"
  | .iny => "INY"
  | .cmpImm _ => "CMP"
  | .dex => "DEX"
  | .axsImm _ => "AXS"
  | .cpyAbs _ => "CPY"
  | .cmpAbs _ => "CMP"
  | .decAbs _ => "DEC"
  | .dcpAbs _ => "DCP"
  | .bneRel _ => "BNE"
  | .cmpIzy _ => "CMP"
  | .jamD2 => "JAM"
  | .dcpIzy _ => "DCP"
  | .nopZpxD4 _ => "NOP"
  | .cmpZpx _ => "CMP"
  | .decZpx _ => "DEC"
  | .dcpZpx _ => "DCP"
  | .cld => "CLD"
  | .cmpAby _ => "CMP"
  | .nopDA => "NOP"
  | .dcpAby _ => "DCP"
  | .nopAbxDC _ => "NOP"
  | .cmpAbx _ => "CMP"
  | .decAbx _ => "DEC"
  | .dcpAbx _ => "DCP"
  | .cpxImm _ => "CPX"
  | .sbcIzx _ => "SBC"
  | .nopImmE2 _ => "NOP"
  | .iscIzx _ => "ISC"
  | .cpxZp _ => "CPX"
  | .sbcZp _ => "SBC"
  | .incZp _ => "INC"
  | .iscZp _ => "ISC"
  | .inx => "INX"
  | .sbcImm _ => "SBC"
  | .nop => "NOP"
  | .sbcImmEB _ => "SBC"
  | .cpxAbs _ => "CPX"
  | .sbcAbs _ => "SBC"
  | .incAbs _ => "INC"
  | .iscAbs _ => "ISC"
  | .beqRel _ => "BEQ"
  | .sbcIzy _ => "SBC"
  | .jamF2 => "JAM"
  | .iscIzy _ => "ISC"
  | .nopZpxF4 _ => "NOP"
  | .sbcZpx _ => "SBC"
  | .incZpx _ => "INC"
  | .iscZpx _ => "ISC"
  | .sed => "SED"
  | .sbcAby _ => "SBC"
  | .nopFA => "NOP"
  | .iscAby _ => "ISC"
  | .nopAbxFC _ => "NOP"
  | .sbcAbx _ => "SBC"
  | .incAbx _ => "INC"
  | .iscAbx _ => "ISC"

/-- Length in bytes (R100, R101). BRK's is 1; the byte after it belongs to its semantics (R123, C10). -/
def Instr.length (i : Instr) : Nat := (encode i).length

/-- Byte `k` of an instruction whose bits are `w`, of which the table gives `nbits`; the bits above are 0. -/
def tableByte (nbits w k : Nat) : Byte := BitVec.ofNat 8 ((w % 2 ^ nbits) >>> (8 * k))

/-- The instruction the decoder reads from the bits `w`, bit 0 the least significant bit of the first byte. -/
def decodeTableWord (nbits w : Nat) : Option Instr :=
  match decode [tableByte nbits w 0, tableByte nbits w 1, tableByte nbits w 2] with
  | .ok (i, _) => some i
  | .error _ => none

end Sys2Proof
end

