-- ==== Sys2Proof/Config.lean ====
section
/-! DEFINITION. What an implementation or a platform fixes: the parameters of 00_scope.md and 92_eei_decisions.md, the
cartridge as plain data, and the free values, which have no body so that no proof can know them. -/

namespace Sys2Proof

/-- Parameter `REGION` (R7): it selects clock numbers only. -/
inductive Region where
  | ntsc | pal | dendy
deriving DecidableEq, Repr

/-- Parameter `REVISION` (R8): in the model it decides one row of R48, the frame counter LFSR after reset (log 27). -/
inductive Revision where
  | rp2A03 | rp2A03E | rp2A03G | rp2A03H | rp2A07
deriving DecidableEq, Repr

/-- Divisor of the master clock that gives the CPU clock (R7). -/
def Region.clockDivisor : Region → Nat
  | .ntsc => 12
  | .pal => 16
  | .dendy => 15

/-- Master clock in hertz, the table's digits (R7, R370). -/
def Region.masterClock : Region → Nat
  | .ntsc => 21477272
  | .pal => 26601712
  | .dendy => 26601712

/-- What answers at an address of cartridge space (R69); the bytes of `rom` are in `Cart.rom`. -/
inductive CartKind where
  | rom | ram | device | unmapped
deriving DecidableEq, Repr

/-- A range of cartridge space and what answers there (R68, R69). -/
structure CartRegion where
  base : Nat
  size : Nat
  kind : CartKind
deriving DecidableEq, Repr

/-- Sparse data by address, in rising order of address. -/
abbrev Memory := List Host.Cell

/-- Parameter `CART` (R69) as plain data: for an address of $4020-$FFFF the first region that holds it decides; an
address in no region is unmapped. A `rom` byte that `rom` does not list is $00: `rom` lists the other bytes.
DESIGN CHOICE (log 7): a representation, any cartridge without bank switching can be written so. -/
structure Cart where
  regions : List CartRegion
  rom : Memory
deriving DecidableEq, Repr

/-- `CART`'s default (D5): 32 KiB of ROM at $8000-$FFFF, unmapped elsewhere; no program is in it (log 9). -/
def Cart.empty : Cart where
  regions := [⟨0x8000, 0x8000, .rom⟩]
  rom := []

/-- The kinds of opcode that R250 tells apart, the documented ones first. -/
inductive OpcodeKind where
  | documented | nop | stable | unstable | jam
deriving DecidableEq, Repr

/-- How a model treats the undocumented opcodes (R250, D1). -/
structure Treatment where
  /-- parameter `ADMIT_UNOFFICIAL` (R8, R250) -/
  admitUnofficial : Bool
  /-- the model's own (log 2): whether an admitted unstable opcode runs, with free values; R250 has it refused, and the
  model's step takes `false` -/
  runUnstable : Bool
deriving DecidableEq, Repr

/-- The two treatments the spec names, `ADMIT_UNOFFICIAL = unofficial`: "kind 3 ... raises Refused" under both (R250,
U20). -/
def Treatment.ofSpec (unofficial : Bool) : Treatment := ⟨unofficial, false⟩

namespace Config

/-- `REGION`'s default (D19). -/
def region : Region := .ntsc

/-- `REVISION`'s default (D19; log 27). -/
def revision : Revision := .rp2A03G

/-- FREE VALUE (log 6): the byte a cell of internal or cartridge RAM holds from power-up until it is written:
"each byte of internal RAM and cartridge RAM holds an arbitrary value at power-up, fixed until written" (D7, U2, U3). -/
opaque ramInit : Nat → Byte

/-- FREE VALUE (log 5): the byte of the n-th draw: a device's answer (D5), open bus (D6), or what an unstable opcode
leaves (R266 to R271, log 2), where the environment's script `inputs` gives none. -/
opaque freeByte : Nat → Byte

/-- FREE VALUE (log 18, log 27): what a reset leaves in an APU register or LFSR whose "After Reset" entry in R48 the
source marks with "?" (U5), and in the frame counter LFSR of the 2A03H, which R48 does not name; arguments: the draw's
number, the register's number in the order of R48, the old value. -/
opaque apuAfterReset : Nat → Nat → Word → Word

/-- FREE VALUE (log 12): whether a read-modify-write that a reset cuts off after it has written the old byte back had
already written C: the rules put `C <-` between the two writes (R194 to R197, R251 to R253), and no rule says in which
cycle; argument: the number of draws so far. -/
opaque carryWritten : Nat → Bool

/-- How the model treats the undocumented opcodes: `ADMIT_UNOFFICIAL = true` (log 1), so that the seven unstable ones are
refused and every other one runs (R250, D1, U20). -/
def treatment : Treatment := .ofSpec true

end Config

end Sys2Proof
end

