-- ==== Sys2Proof/WellFormed.lean ====
section
/-! DEFINITION. What is well formed. An instruction always is: "Operand bytes have no reserved values: every byte value
is a legal immediate, address byte or offset" (R122), and the constructors' types fix the widths. The cartridge, the
one parameter that is a structure, has the checks of R69. -/

namespace Sys2Proof

/-- Every instruction is well formed (R122; log 21). -/
def Instr.wellFormed (_ : Instr) : Bool := true

/-- Whether an address lies in the region. -/
def CartRegion.covers (r : CartRegion) (a : Nat) : Bool := r.base ≤ a && a < r.base + r.size

/-- What `CART` says of an address of cartridge space: the first region that holds it (R69). -/
def Cart.kindAt (c : Cart) (a : Nat) : CartKind :=
  match c.regions.find? (fun r => r.covers a) with
  | some r => r.kind
  | none => .unmapped

/-- A canonical memory whose unlisted cells read as `unlisted` (`none`: no value listed): addresses strictly rise, and
no entry repeats what an unlisted address reads as. -/
abbrev Memory.Wf (unlisted : Option Byte) (m : Memory) : Prop :=
  m.Pairwise (fun e f => e.1 < f.1) ∧ ∀ e ∈ m, unlisted ≠ some e.2

/-- Cartridge regions lie in $4020-$FFFF: `CART` maps nothing below (R69). -/
def Cart.inSpace (c : Cart) : Bool :=
  c.regions.all fun r => 0x4020 ≤ r.base && r.base + r.size ≤ 0x10000

/-- "`CART` must put `rom` or `ram` at $FFFA-$FFFF for the vectors to have known values" (R69). -/
def Cart.vectorsKnown (c : Cart) : Bool :=
  [0xFFFA, 0xFFFB, 0xFFFC, 0xFFFD, 0xFFFE, 0xFFFF].all fun a =>
    c.kindAt a == .rom || c.kindAt a == .ram

/-- The listed ROM bytes lie at ROM addresses (R69). -/
def Cart.romInPlace (c : Cart) : Bool := c.rom.all fun e => c.kindAt e.1 == .rom

/-- The ROM's list is canonical (log 7). -/
def Cart.romCanonical (c : Cart) : Bool := decide (Memory.Wf (some 0) c.rom)

/-- Well-formedness of `CART` (R69). -/
def Cart.wellFormed (c : Cart) : Bool :=
  c.inSpace && c.vectorsKnown && c.romInPlace && c.romCanonical

end Sys2Proof
end

