-- ==== Sys2Proof/Machine/State.lean ====
section
/-! DEFINITION. The machine's state as plain data (10_state.md), the reasons a step can stop, and the state right after
reset. INVENTORY.md lists each field with its rule and its reset value. -/

namespace Sys2Proof.Machine

/-- The flags register: "six one-bit registers", no seventh or eighth bit (R26, R33, R34). -/
structure Flags where
  /-- negative (R32) -/
  n : Bool
  /-- overflow (R31) -/
  v : Bool
  /-- decimal, without effect on arithmetic (R30) -/
  d : Bool
  /-- interrupt disable (R29) -/
  i : Bool
  /-- zero (R28) -/
  z : Bool
  /-- carry (R27) -/
  c : Bool
deriving DecidableEq, Repr

/-- One bus cycle as R80 lets it be seen: address, direction and, for a write, the value (R74). -/
inductive BusCycle where
  | read (a : Word)
  | write (a : Word) (v : Byte)
deriving DecidableEq, Repr

/-- Whether a cycle is a write. -/
def BusCycle.isWrite : BusCycle → Bool
  | .read _ => false
  | .write _ _ => true

/-- What the environment may do to the pins before a step (R320). A level `true` is high. -/
inductive PinEvent where
  /-- drive /IRQ to a level (R40, R303) -/
  | irq (level : Bool)
  /-- drive /NMI to a level; a fall requests an NMI (R41, R304) -/
  | nmi (level : Bool)
  /-- let /NMI fall during the coming step, before a vector is fetched (R314) -/
  | nmiMid
  /-- drive /RST to a level; the release is the reset event (R44, R350) -/
  | rst (level : Bool)
  /-- let /RST fall during the coming step, after this many of its bus cycles (R305, R351) -/
  | rstMid (cycles : Nat)
deriving DecidableEq, Repr

/-- APU register state as R48 tabulates it: the byte last written to each register, and the counters with a reset row.
Nothing in the CPU reads it (R48); reads of these addresses are device reads (R70). Log 18. -/
structure Apu where
  /-- pulses $4000-$4007, triangle $4008-$400B, noise $400C-$400F -/
  tone : Vector Byte 16
  /-- $4010 -/
  dmcFlagsRate : Byte
  /-- $4011 -/
  dmcDirectLoad : Byte
  /-- $4012 -/
  dmcSampleAddress : Byte
  /-- $4013 -/
  dmcSampleLength : Byte
  /-- $4015 -/
  status : Byte
  /-- $4017 -/
  frameCounter : Byte
  /-- triangle phase; PRESUMED 5 bits -/
  trianglePhase : BitVec 5
  /-- "Noise 15-bit LFSR" -/
  noiseLfsr : BitVec 15
  /-- DMC LFSR; PRESUMED 9 bits -/
  dmcLfsr : BitVec 9
  /-- frame counter LFSR, "$7FFF (all 1s)" -/
  frameLfsr : BitVec 15
deriving DecidableEq, Repr

/-- The "At Power" column of R48. -/
def Apu.atPower : Apu where
  tone := Vector.replicate 16 0
  dmcFlagsRate := 0
  dmcDirectLoad := 0
  dmcSampleAddress := 0
  dmcSampleLength := 0
  status := 0
  frameCounter := 0
  trianglePhase := 0
  noiseLfsr := 0
  dmcLfsr := 0
  frameLfsr := 0x7FFF

/-- The whole machine. A pin level `true` is high. -/
structure State where
  /-- accumulator `A` (R21) -/
  a : Byte
  /-- index register `X` (R22) -/
  x : Byte
  /-- index register `Y` (R23) -/
  y : Byte
  /-- stack pointer `S`: low byte of the next free address of page one (R24) -/
  sp : Byte
  /-- program counter: between instructions the address of the next opcode (R25) -/
  pc : Word
  /-- the six flags of `P` (R26) -/
  p : Flags
  /-- `i_poll`: the interrupt-disable value the IRQ gate uses at the coming boundary (R42) -/
  iPoll : Bool
  /-- `jammed`: set by JAM, cleared by reset (R43) -/
  jammed : Bool
  /-- level of /IRQ; low is a request (R40) -/
  irqLine : Bool
  /-- level of /NMI (R304) -/
  nmiLine : Bool
  /-- `nmi_pending`: set by a fall of /NMI, cleared when the NMI is taken (R41) -/
  nmiPending : Bool
  /-- the model's own: /NMI falls during the coming step (R314, log 11) -/
  nmiMid : Bool
  /-- level of /RST; low holds the CPU (R44) -/
  rstLine : Bool
  /-- the model's own: /RST falls in the coming step after this many bus cycles (R305, R351, log 12) -/
  rstMid : Option Nat
  /-- /RST was released: the reset sequence is due at the coming boundary (R320) -/
  resetPending : Bool
  /-- the model's own: the pin events of the coming steps, one list a step (R320, log 11) -/
  schedule : List (List PinEvent)
  /-- internal RAM cells $0000-$07FF and cartridge RAM cells, canonical with no value for an unlisted cell (R62, R69) -/
  mem : Memory
  /-- the cartridge (R69) -/
  cart : Cart
  /-- APU register state (R48) -/
  apu : Apu
  /-- "$4016 output latch bits 0-2", pins OUT0 to OUT2 (R47, R87) -/
  outLatch : BitVec 3
  /-- the model's own: what the environment answers to the coming draws, oldest first (R321, log 5) -/
  inputs : List Byte
  /-- the model's own: how many bytes were drawn so far (log 5) -/
  draws : Nat
  /-- the event history: every bus cycle, newest first (R70, R71, R80, R321) -/
  bus : List BusCycle
deriving DecidableEq, Repr

/-- The machine right after reset: the power-up values of R49 (measured on one RP2A03G; guaranteed are `I` and `pc`,
R354, log 8), after "S ... $00 - 3 = $FD". `pc` is the word at $FFFC of `Cart.empty`, whose ROM lists no byte (log 9).
Pins are at rest and the model's own fields are empty (log 10). -/
def State.reset : State where
  a := 0
  x := 0
  y := 0
  sp := 0xFD
  pc := 0x0000
  p := { n := false, v := false, d := false, i := true, z := false, c := false }
  iPoll := true
  jammed := false
  irqLine := true
  nmiLine := true
  nmiPending := false
  nmiMid := false
  rstLine := true
  rstMid := none
  resetPending := false
  schedule := []
  mem := []
  cart := Cart.empty
  apu := Apu.atPower
  outLatch := 0
  inputs := []
  draws := 0
  bus := []

/-- Reasons a step can fault: none. "This CPU has no fault, trap or abort of any kind: no instruction can fail" (R300). -/
inductive Fault : Type
deriving DecidableEq, Repr

/-- Reasons a step can be refused. -/
inductive Refusal where
  /-- An instruction without a meaning, by its mnemonic; raised by an arm of `exec` that rejects its instruction. No arm
  does: every instruction has its meaning. Safe. -/
  | notModelled (mnemonic : String)
  /-- The model declines the undocumented opcode that was fetched, "not a hardware fault" (R250); raised by
  `State.runInstructionUnder` at the fetch, under a treatment that leaves the opcode out. Safe. -/
  | declined (opcode : Byte)
deriving DecidableEq, Repr

/-- What a step or a meaning answers. -/
abbrev Result := Host.Outcome State Fault Refusal

end Sys2Proof.Machine
end

