-- ==== Sys2Proof/Machine/Flags.lean ====
section
/-! DEFINITION. Every flag computation of the spec: Z and N of a result, the carries and overflow of addition and
subtraction (R170 to R174, R181), the shifts and rotates (R194 to R197), BIT (R193), and the byte form of P
(R35 to R37). Each is a function of bytes and flags. -/

namespace Sys2Proof.Machine

/-- `SetZN(v)` (R11): "Z <- (v == 0); N <- v[7]". -/
def Flags.setZN (p : Flags) (v : Byte) : Flags := { p with z := decide (v = 0), n := v.getLsbD 7 }

/-- `PackP(b)`: the byte pushed for the flags (R36); `b` is the B bit, bit 5 is 1 (R34). -/
def Flags.pack (p : Flags) (b : Bool) : Byte :=
  BitVec.ofNat 8 (p.n.toNat * 128 + p.v.toNat * 64 + 32 + b.toNat * 16 + p.d.toNat * 8 + p.i.toNat * 4 + p.z.toNat * 2
    + p.c.toNat)

/-- `UnpackP(v)`: the flags a pulled byte gives; bits 5 and 4 are discarded (R37). -/
def Flags.unpack (v : Byte) : Flags where
  n := v.getLsbD 7
  v := v.getLsbD 6
  d := v.getLsbD 3
  i := v.getLsbD 2
  z := v.getLsbD 1
  c := v.getLsbD 0

/-- The exact sum of ADC, 0 to 511 (R170). -/
def addSum (a m : Byte) (c : Bool) : Nat := a.toNat + m.toNat + c.toNat

/-- The byte ADC leaves (R170). It does not read `D` (R30). -/
def addResult (a m : Byte) (c : Bool) : Byte := BitVec.ofNat 8 (addSum a m c)

/-- The flags ADC leaves (R170): the carry out, the signed overflow, Z and N of the result. -/
def addFlags (a m : Byte) (p : Flags) : Flags :=
  let r := addResult a m p.c
  { p.setZN r with
    c := decide (addSum a m p.c > 255)
    v := decide ((a ^^^ r) &&& (m ^^^ r) &&& 0x80 ≠ 0) }

/-- The byte SBC leaves: ADC of the complemented operand (R171). -/
def subResult (a m : Byte) (c : Bool) : Byte := addResult a (m ^^^ 0xFF) c

/-- The flags SBC leaves (R171). -/
def subFlags (a m : Byte) (p : Flags) : Flags := addFlags a (m ^^^ 0xFF) p

/-- The flags a compare of register `r` with `m` leaves (R172): unsigned `>=`, equality, bit 7 of the difference. -/
def compareFlags (r m : Byte) (p : Flags) : Flags :=
  { p with c := decide (m.toNat ≤ r.toNat), z := decide (r = m), n := (r - m).getLsbD 7 }

/-- The flags BIT leaves (R193): Z from `A & M`, N and V from the byte itself. -/
def bitFlags (a m : Byte) (p : Flags) : Flags :=
  { p with z := decide (a &&& m = 0), n := m.getLsbD 7, v := m.getLsbD 6 }

/-- ASL's result (R194). -/
def aslValue (old : Byte) (_ : Flags) : Byte := old <<< 1

/-- ASL's flags: C is the bit shifted out (R194). -/
def aslFlags (old : Byte) (p : Flags) : Flags := { p.setZN (aslValue old p) with c := old.getLsbD 7 }

/-- LSR's result (R195). -/
def lsrValue (old : Byte) (_ : Flags) : Byte := old >>> 1

/-- LSR's flags (R195). -/
def lsrFlags (old : Byte) (p : Flags) : Flags := { p.setZN (lsrValue old p) with c := old.getLsbD 0 }

/-- ROL's result: the old C enters bit 0 (R196). -/
def rolValue (old : Byte) (p : Flags) : Byte := (old <<< 1) ||| (if p.c then 0x01 else 0)

/-- ROL's flags (R196). -/
def rolFlags (old : Byte) (p : Flags) : Flags := { p.setZN (rolValue old p) with c := old.getLsbD 7 }

/-- ROR's result: the old C enters bit 7 (R197). -/
def rorValue (old : Byte) (p : Flags) : Byte := (old >>> 1) ||| (if p.c then 0x80 else 0)

/-- ROR's flags (R197). -/
def rorFlags (old : Byte) (p : Flags) : Flags := { p.setZN (rorValue old p) with c := old.getLsbD 0 }

/-- INC's result (R175). -/
def incValue (old : Byte) (_ : Flags) : Byte := old + 1

/-- INC's flags: Z and N; C and V stay (R175). -/
def incFlags (old : Byte) (p : Flags) : Flags := p.setZN (incValue old p)

/-- DEC's result (R176). -/
def decValue (old : Byte) (_ : Flags) : Byte := old - 1

/-- DEC's flags (R176). -/
def decFlags (old : Byte) (p : Flags) : Flags := p.setZN (decValue old p)

/-- The byte ARR leaves in A (R261): AND, then rotate right through C. -/
def arrResult (a m : Byte) (p : Flags) : Byte := rorValue (a &&& m) p

/-- ARR's flags: "C <- A[6]; V <- A[6] ^ A[5]" of the result (R261), whatever D is. -/
def arrFlags (a m : Byte) (p : Flags) : Flags :=
  let r := arrResult a m p
  { p.setZN r with c := r.getLsbD 6, v := (r.getLsbD 6).xor (r.getLsbD 5) }

end Sys2Proof.Machine
end

