-- ==== Sys2Proof/Machine/Ops.lean ====
section
/-! DEFINITION. The named operations over memory, the bus, the stack and the pins (20_memory.md), fetching an
instruction (30_encoding.md), taking an interrupt, returning from one and the reset sequence (60_exceptions.md,
70_reset_and_hazards.md). A read cycle is two functions: `busRead` is the byte it returns, `readCycle` the state after. -/

namespace Sys2Proof.Machine

/-! ## Memory as a canonical list -/

/-- The byte listed at a cell, if one is. -/
def memLookup : Memory → Nat → Option Byte
  | [], _ => none
  | (k, v) :: m, a => if a = k then some v else memLookup m a

/-- The list with `v` at cell `a`, in rising order. -/
def memInsert : Memory → Nat → Byte → Memory
  | [], a, v => [(a, v)]
  | (k, w) :: m, a, v =>
    if a < k then (a, v) :: (k, w) :: m
    else if a = k then (a, v) :: m
    else (k, w) :: memInsert m a v

/-- The list without cell `a`. -/
def memErase : Memory → Nat → Memory
  | [], _ => []
  | (k, w) :: m, a => if a = k then m else (k, w) :: memErase m a

/-- Writing a cell of a memory whose unlisted cells read as `unlisted`: the canonical form is kept. -/
def memStore (unlisted : Option Byte) (m : Memory) (a : Nat) (v : Byte) : Memory :=
  if unlisted = some v then memErase m a else memInsert m a v

/-! ## The address map and the bus -/

/-- What answers an access (R61, R70, R71). -/
inductive Target where
  /-- a cell of internal RAM (R62) or of cartridge RAM (R69) -/
  | ram (cell : Nat)
  /-- a byte of cartridge ROM (R69) -/
  | rom (cell : Nat)
  /-- PPU register 0 to 7 (R63) -/
  | ppu (register : Nat)
  /-- an APU or I/O register $4000-$4017 (R64) -/
  | io (register : Nat)
  /-- $4018-$401F, disabled with TST low: open bus (R65, D21) -/
  | testSpace
  /-- a cartridge device (R69) -/
  | cartDevice
  /-- nothing: open bus (R78) -/
  | unmapped
deriving DecidableEq, Repr

/-- The address map (R61 to R65, R69). -/
def State.target (s : State) (a : Word) : Target :=
  if a.toNat < 0x2000 then .ram (a.toNat % 0x800)
  else if a.toNat < 0x4000 then .ppu (a.toNat % 8)
  else if a.toNat < 0x4018 then .io a.toNat
  else if a.toNat < 0x4020 then .testSpace
  else match s.cart.kindAt a.toNat with
    | .rom => .rom a.toNat
    | .ram => .ram a.toNat
    | .device => .cartDevice
    | .unmapped => .unmapped

/-- What a RAM cell holds: the byte last written, else its power-up byte (R51, U2; log 6). -/
def State.ramByte (s : State) (cell : Nat) : Byte := (memLookup s.mem cell).getD (Config.ramInit cell)

/-- What a ROM address holds; a byte the list leaves out is $00 (log 7). -/
def State.romByte (s : State) (cell : Nat) : Byte := (memLookup s.cart.rom cell).getD 0

/-- The byte stored at an address; `none` where no storage answers (a device, open bus). The model's read of one byte
without a bus cycle. -/
def State.byteAt (s : State) (a : Word) : Option Byte :=
  match s.target a with
  | .ram c => some (s.ramByte c)
  | .rom c => some (s.romByte c)
  | _ => none

/-- The next byte the environment gives: its script's, else a free value (D5, D6; log 5). -/
def State.drawValue (s : State) : Byte :=
  match s.inputs with
  | b :: _ => b
  | [] => Config.freeByte s.draws

/-- The state after one draw. -/
def State.drawn (s : State) : State := { s with inputs := s.inputs.tail, draws := s.draws + 1 }

/-- The byte a read cycle returns, `MemRead(a, 1)` (R70). -/
def State.busRead (s : State) (a : Word) : Byte := (s.byteAt a).getD s.drawValue

/-- The state after a read cycle (R70): the cycle is recorded (R80), and a device or open bus has drawn a byte. -/
def State.readCycle (s : State) (a : Word) : State :=
  { s with
    bus := .read a :: s.bus
    inputs := if (s.byteAt a).isSome then s.inputs else s.inputs.tail
    draws := if (s.byteAt a).isSome then s.draws else s.draws + 1 }

/-- A write to an APU register as the tables of R47 and R48 name them (log 18). -/
def Apu.write (r : Apu) (a : Nat) (v : Byte) : Apu :=
  if 0x4000 ≤ a ∧ a < 0x4010 then { r with tone := r.tone.setIfInBounds (a - 0x4000) v }
  else if a = 0x4010 then { r with dmcFlagsRate := v }
  else if a = 0x4011 then { r with dmcDirectLoad := v }
  else if a = 0x4012 then { r with dmcSampleAddress := v }
  else if a = 0x4013 then { r with dmcSampleLength := v }
  else if a = 0x4015 then { r with status := v }
  else if a = 0x4017 then { r with frameCounter := v }
  else r

/-- The RAM after a write cycle (R71): only a RAM cell changes; ROM and unmapped space do not (D23). -/
def State.memAfter (s : State) (a : Word) (v : Byte) : Memory :=
  match s.target a with
  | .ram c => memStore none s.mem c v
  | _ => s.mem

/-- The state after a write cycle, `MemWrite(a, 1, v)` (R71): RAM, or a device register, and the record of the cycle.
A write to $4016 latches bits 0 to 2 onto OUT0 to OUT2 (R47). -/
def State.writeCycle (s : State) (a : Word) (v : Byte) : State :=
  { s with
    mem := s.memAfter a v
    apu := s.apu.write a.toNat v
    outLatch := if a.toNat = 0x4016 then v.extractLsb' 0 3 else s.outLatch
    bus := .write a v :: s.bus }

/-! ## Stack -/

/-- `$0100 + S` for a stack pointer (R24). -/
def stackAddress (sp : Byte) : Word := wordOf sp 0x01

/-- `Push(v)` (R75). -/
def State.push (s : State) (v : Byte) : State := { s.writeCycle (stackAddress s.sp) v with sp := s.sp - 1 }

/-- The byte `Pull()` returns (R76). -/
def State.pullValue (s : State) : Byte := s.busRead (stackAddress (s.sp + 1))

/-- The state after `Pull()` (R76). -/
def State.pulled (s : State) : State := { s.readCycle (stackAddress (s.sp + 1)) with sp := s.sp + 1 }

/-- The dummy read of the stack that pulls and JSR begin with (R376). -/
def State.stackIdle (s : State) : State := s.readCycle (stackAddress s.sp)

/-! ## The end of an instruction, and the dummy read of a one-byte instruction -/

/-- The usual end of an instruction: `pc <- (pc + len) mod 65536` and `i_poll <- I` (R11, R320). -/
def State.retire (s : State) (len : Word) : State := { s with pc := s.pc + len, iPoll := s.p.i }

/-- The end of an instruction that sets `pc` itself (R11), with `i_poll <- I` (R320). -/
def State.retireAt (s : State) (target : Word) : State := { s with pc := target, iPoll := s.p.i }

/-- The dummy `R pc+1` of a one-byte instruction (R372, R376). -/
def State.idle (s : State) : State := s.readCycle (s.pc + 1)

/-! ## Fetch -/

/-- The instruction at `pc` and the state after its fetch: the opcode, then each operand byte, one read cycle each, in
address order (R100, R102, R372 to R376). JSR reads its third byte only after its pushes (R221): here the byte is looked
at without a cycle, and the JSR's meaning makes the read (log 17). -/
def State.fetch (s : State) : Instr × State :=
  let op := s.busRead s.pc
  let s1 := s.readCycle s.pc
  match (opcodeShape op).operands with
  | 0 => (instrOf op 0 0, s1)
  | 1 => (instrOf op (s1.busRead (s.pc + 1)) 0, s1.readCycle (s.pc + 1))
  | _ =>
    let s2 := s1.readCycle (s.pc + 1)
    let i := instrOf op (s1.busRead (s.pc + 1)) (s2.busRead (s.pc + 2))
    if op = 0x20 then (i, s2) else (i, s2.readCycle (s.pc + 2))

/-! ## Interrupts: taking one, and returning -/

/-- The NMI vector (R66). -/
def nmiVector : Word := 0xFFFA

/-- The reset vector (R66). -/
def resetVector : Word := 0xFFFC

/-- The IRQ and BRK vector (R66, C1). -/
def irqVector : Word := 0xFFFE

/-- The vector an entry reads: a pending NMI takes an entry over (R314). -/
def State.vectorFor (s : State) (v : Word) : Word := if s.nmiPending then nmiVector else v

/-- The three pushes of an entry: PC high, PC low, flags with B (R310, D18). The flags are "as they are now: I not yet
set". -/
def State.pushFrame (s : State) (ret : Word) (b : Bool) : State :=
  ((s.push (hiByte ret)).push (loByte ret)).push (s.p.pack b)

/-- `pc <- Read16(v)`: the low byte first (R72). -/
def State.loadVector (s : State) (v : Word) : State :=
  let s1 := s.readCycle v
  { s1.readCycle (v + 1) with pc := wordOf (s.busRead v) (s1.busRead (v + 1)) }

/-- The part of an entry that BRK, IRQ and NMI share (R310, R238): the pushes, `I <- 1`, `i_poll <- 1`, the vector.
"if vector == $FFFA then nmi_pending <- 0". -/
def State.enter (s : State) (ret : Word) (b : Bool) (v : Word) : State :=
  let vec := s.vectorFor v
  let s1 := s.pushFrame ret b
  { s1 with p := { s1.p with i := true }, iPoll := true, nmiPending := s1.nmiPending && vec != nmiVector }.loadVector vec

/-- `Interrupt(vector, b)` with b = 0: an IRQ or NMI entry, one step in place of an instruction (R310). -/
def State.interrupt (s : State) (v : Word) : State :=
  ((s.readCycle s.pc).readCycle s.pc).enter s.pc false v

/-- Return from interrupt: the flags, then `pc`, low byte first; "i_poll <- I" (R239, R313). -/
def State.returnFromInterrupt (s : State) : State :=
  let s1 := s.pulled
  let s2 := s1.pulled
  { s2.pulled with p := Flags.unpack s.pullValue }.retireAt (wordOf s1.pullValue s2.pullValue)

/-! ## Reset -/

/-- The "After Reset" column of R48: the rows marked "?" draw a free value (U5). The revision decides the frame counter
LFSR (R8, U6): unchanged on the letterless chip, $7FFF on 2A03E, 2A03G and 2A07; R48 has no entry for the 2A03H, where
it is a free value (DESIGN CHOICE, log 27). -/
def Apu.afterReset (r : Apu) (rev : Revision) (draw : Nat) : Apu :=
  { r with
    tone := Vector.ofFn fun k : Fin 16 => loByte (Config.apuAfterReset draw k r.tone[k].toNat)
    dmcDirectLoad := r.dmcDirectLoad &&& 1
    status := 0
    trianglePhase := 0
    noiseLfsr := (Config.apuAfterReset draw 16 r.noiseLfsr.toNat).extractLsb' 0 15
    dmcLfsr := (Config.apuAfterReset draw 17 r.dmcLfsr.toNat).extractLsb' 0 9
    frameLfsr := match rev with
      | .rp2A03 => r.frameLfsr
      | .rp2A03E | .rp2A03G | .rp2A07 => 0x7FFF
      | .rp2A03H => (Config.apuAfterReset draw 18 r.frameLfsr.toNat).extractLsb' 0 15 }

/-- One of the suppressed pushes of the reset sequence: a read of the stack, S decremented (R351). -/
def State.suppressedPush (s : State) : State := { s.stackIdle with sp := s.sp - 1 }

/-- `Reset()` (R351): two dummy reads, three reads where the pushes would be, `I <- 1`, `i_poll <- 1`, the NMI latch and
the jam cleared, `pc <- Read16($FFFC)`; the APU as R48 says (R353). No memory is written (R50). Two points the spec leaves
open are DESIGN CHOICES: the $4016 output latch keeps its bits (log 30), and a fall of /NMI placed inside this step is
dropped with the latch (log 31). -/
def State.resetSequence (s : State) : State :=
  let s1 := ((s.readCycle s.pc).readCycle s.pc).suppressedPush.suppressedPush.suppressedPush
  { s1 with
    p := { s1.p with i := true }
    iPoll := true
    nmiPending := false
    nmiMid := false
    jammed := false
    resetPending := false
    apu := s1.apu.afterReset Config.revision s1.draws
    draws := s1.draws + 1 }.loadVector resetVector

/-! ## The environment -/

/-- One pin event. /NMI requests on its fall (R304); the release of /RST is the reset event (R44, R350). -/
def State.pin (s : State) : PinEvent → State
  | .irq level => { s with irqLine := level }
  | .nmi level => { s with nmiLine := level, nmiPending := s.nmiPending || (s.nmiLine && !level) }
  | .nmiMid => { s with nmiLine := false, nmiMid := s.nmiMid || s.nmiLine }
  | .rst level => { s with rstLine := level, resetPending := s.resetPending || (!s.rstLine && level) }
  | .rstMid cycles => { s with rstMid := if s.rstLine then some cycles else s.rstMid }

/-- What the environment does before a step: the pin events its script holds for it (R320, D24). -/
def State.environment (s : State) : State :=
  match s.schedule with
  | [] => s
  | events :: later => events.foldl State.pin { s with schedule := later }

/-- The fall of /NMI that the environment placed inside this step is latched (R314, log 11). -/
def State.latchNmi (s : State) : State := { s with nmiPending := s.nmiPending || s.nmiMid, nmiMid := false }

/-! ## A reset in the middle of a step -/

/-- One bus cycle again: the read or the write that a history records (R70, R71). -/
def State.cycle (s : State) : BusCycle → State
  | .read a => s.readCycle a
  | .write a v => s.writeCycle a v

/-- The bus cycles that lie between `s` and a later state `t`, oldest first. -/
def State.cyclesTo (s t : State) : List BusCycle := (t.bus.take (t.bus.length - s.bus.length)).reverse

/-- Whether the coming step is a sequence of R310 or R351 in place of an instruction (R320). -/
def State.entering (s : State) : Bool := s.resetPending || s.nmiPending || (!s.irqLine && !s.iPoll)

/-- S after the first `k` cycles of the coming step, when they are not all: each push, pull or suppressed push that R376
puts into them has moved S (R75, R76, R351). -/
def State.stackAfter (s : State) (k : Nat) : Byte :=
  if s.entering || s.busRead s.pc = 0x00 then s.sp - BitVec.ofNat 8 (min 3 (k - 2))
  else if s.busRead s.pc = 0x20 then s.sp - BitVec.ofNat 8 (min 2 (k - 3))
  else if s.busRead s.pc = 0x40 || s.busRead s.pc = 0x60 then s.sp + BitVec.ofNat 8 (min 2 (k - 3))
  else s.sp

/-- The flags after the first `k` cycles of the coming step, whose whole is `t`, when they are not all: RTI has pulled
them with its fourth cycle (R239, R376), a read-modify-write may have written C once it wrote the old byte back (log 12),
and nothing else is completed (R351). -/
def State.flagsAfter (s : State) (k : Nat) (t : State) : Flags :=
  if !s.entering && s.busRead s.pc = 0x40 && 4 ≤ k then t.p
  else if ((s.cyclesTo t).take k).any BusCycle.isWrite && Config.carryWritten s.draws then { s.p with c := t.p.c }
  else s.p

/-- The step from `s` that would have led to `t`, abandoned as /RST falls after `k` of its bus cycles: "nothing of it is
completed or undone", the cycles made stay made, writes among them (R305, R351). A step of no more than `k` cycles is
whole, and /RST falls at its end. -/
def State.cutAfter (s : State) (k : Nat) (t : State) : State :=
  if (s.cyclesTo t).length ≤ k then { t with rstLine := false, rstMid := none }
  else { (((s.cyclesTo t).take k).foldl State.cycle s).latchNmi with
    sp := s.stackAfter k
    p := s.flagsAfter k t
    rstLine := false
    rstMid := none }

end Sys2Proof.Machine
end

