-- ==== Sys2Proof/Machine/Operands.lean ====
section
/-! DEFINITION. The addressing modes with a memory operand (R107 to R114, R117) and the three access classes (R118),
with every bus cycle of R372 to R374 in order. -/

namespace Sys2Proof.Machine

/-- A memory operand: its addressing mode and the operand bytes of the instruction. -/
inductive Mode where
  /-- zero page (R107) -/
  | zp (z : Byte)
  /-- zero page indexed by X (R108) -/
  | zpx (z : Byte)
  /-- zero page indexed by Y (R109) -/
  | zpy (z : Byte)
  /-- absolute (R110) -/
  | abs (w : Word)
  /-- absolute indexed by X (R111) -/
  | abx (w : Word)
  /-- absolute indexed by Y (R112) -/
  | aby (w : Word)
  /-- indexed indirect, `(zp,X)` (R113) -/
  | izx (z : Byte)
  /-- indirect indexed, `(zp),Y` (R114) -/
  | izy (z : Byte)
deriving DecidableEq, Repr

/-- A source operand: an immediate (R106) or a byte of memory. -/
inductive Operand where
  | imm (n : Byte)
  | mem (m : Mode)
deriving DecidableEq, Repr

/-- Length of an instruction with this memory operand (R101). -/
def Mode.length : Mode → Word
  | .zp _ | .zpx _ | .zpy _ | .izx _ | .izy _ => 2
  | .abs _ | .abx _ | .aby _ => 3

/-- Length of an instruction with this operand (R101). -/
def Operand.length : Operand → Word
  | .imm _ => 2
  | .mem m => m.length

/-- `Read16ZP(z)`: both bytes come from page zero (R117). -/
def State.pointerAt (s : State) (z : Byte) : Word := wordOf (s.busRead (zext16 z)) (s.busRead (zext16 (z + 1)))

/-- The address before Y or X is added with carry (R111, R112, R114); of the other modes, the effective address. -/
def State.base (s : State) : Mode → Word
  | .zp z => zext16 z
  | .zpx z => zext16 (z + s.x)
  | .zpy z => zext16 (z + s.y)
  | .abs w | .abx w | .aby w => w
  | .izx z => s.pointerAt (z + s.x)
  | .izy z => s.pointerAt z

/-- The index a mode adds to its base with carry into the high byte (R111, R112, R114); 0 of the other modes. -/
def State.index (s : State) : Mode → Byte
  | .abx _ => s.x
  | .aby _ | .izy _ => s.y
  | _ => 0

/-- Whether the mode adds an index with carry into the high byte. -/
def Mode.carries : Mode → Bool
  | .abx _ | .aby _ | .izy _ => true
  | _ => false

/-- `ea`, the effective address (R107 to R114). -/
def State.ea (s : State) (m : Mode) : Word := s.base m + zext16 (s.index m)

/-- A page cross: "hi(ea) != hi(base)" (R111). -/
def State.pageCross (s : State) (m : Mode) : Bool := hiByte (s.ea m) != hiByte (s.base m)

/-- `w`, "the effective address with the carry into the high byte not yet applied" (R374). -/
def State.uncarried (s : State) (m : Mode) : Word := wordOf (loByte (s.base m) + s.index m) (hiByte (s.base m))

/-- The cycles a mode makes between the operand bytes and the address: the dummy read of the unindexed zero-page address
and the reads of a zero-page pointer (R373, R374). -/
def State.pointerCycles (s : State) : Mode → State
  | .zpx z | .zpy z => s.readCycle (zext16 z)
  | .izx z => ((s.readCycle (zext16 z)).readCycle (zext16 (z + s.x))).readCycle (zext16 (z + s.x + 1))
  | .izy z => (s.readCycle (zext16 z)).readCycle (zext16 (z + 1))
  | _ => s

/-- How the operand is accessed (R118); `modify` is class rmw. -/
inductive Access where
  | read | write | modify
deriving DecidableEq, Repr

/-- The state once the effective address is on the bus: the mode's own cycles, then the dummy `R w`, which a read makes
only on a page cross and a write or rmw always (R374). -/
def State.addressed (s : State) (m : Mode) (k : Access) : State :=
  if m.carries && (k != .read || s.pageCross m) then (s.pointerCycles m).readCycle (s.uncarried m)
  else s.pointerCycles m

/-- The operand's value (R106, R118 class read). -/
def State.operandValue (s : State) : Operand → Byte
  | .imm n => n
  | .mem m => (s.addressed m .read).busRead (s.ea m)

/-- The state after the operand is read (R118 class read); an immediate was read by the fetch. -/
def State.operandRead (s : State) : Operand → State
  | .imm _ => s
  | .mem m => (s.addressed m .read).readCycle (s.ea m)

/-- The state after a store of `v` (R118 class write). -/
def State.stored (s : State) (m : Mode) (v : Byte) : State := (s.addressed m .write).writeCycle (s.ea m) v

/-- The byte a read-modify-write instruction reads (R118 class rmw). -/
def State.modifyOld (s : State) (m : Mode) : Byte := (s.addressed m .modify).busRead (s.ea m)

/-- The state after the three accesses of class rmw: the read, the write of the old value, the write of `v` (R118). -/
def State.modified (s : State) (m : Mode) (v : Byte) : State :=
  (((s.addressed m .modify).readCycle (s.ea m)).writeCycle (s.ea m) (s.modifyOld m)).writeCycle (s.ea m) v

end Sys2Proof.Machine
end

