-- ==== Sys2Proof/Machine/Arithmetic.lean ====
section
/-! DEFINITION. Arithmetic, compares, increments and decrements (42_arithmetic.md, R170 to R181). Each instruction has a definition of its own. -/

namespace Sys2Proof.Machine

/-- ADC (R170): the sum is binary whatever `D` is (R30, R181). -/
def addToA (o : Operand) (s : State) : State :=
  let v := s.operandValue o
  { s.operandRead o with a := addResult s.a v s.p.c, p := addFlags s.a v s.p }.retire o.length

/-- SBC (R171). -/
def subFromA (o : Operand) (s : State) : State :=
  let v := s.operandValue o
  { s.operandRead o with a := subResult s.a v s.p.c, p := subFlags s.a v s.p }.retire o.length

/-- CMP, CPX and CPY of the register byte `r` (R172, R173, R174). -/
def compareWith (r : Byte) (o : Operand) (s : State) : State :=
  { s.operandRead o with p := compareFlags r (s.operandValue o) s.p }.retire o.length

/-- A documented read-modify-write of a memory byte: INC, DEC, ASL, LSR, ROL, ROR (R175, R176, R194 to R197). -/
def modifyByte (m : Mode) (value : Byte → Flags → Byte) (flags : Byte → Flags → Flags) (s : State) : State :=
  { s.modified m (value (s.modifyOld m) s.p) with p := flags (s.modifyOld m) s.p }.retire m.length

/-- $61 ADC ($nn,X) (R170). -/
def execAdcIzx (z : Byte) (s : State) : Result := .next (addToA (.mem (.izx z)) s)

/-- $65 ADC $nn (R170). -/
def execAdcZp (z : Byte) (s : State) : Result := .next (addToA (.mem (.zp z)) s)

/-- $69 ADC #$nn (R170). -/
def execAdcImm (n : Byte) (s : State) : Result := .next (addToA (.imm n) s)

/-- $6D ADC $nnnn (R170). -/
def execAdcAbs (w : Word) (s : State) : Result := .next (addToA (.mem (.abs w)) s)

/-- $71 ADC ($nn),Y (R170). -/
def execAdcIzy (z : Byte) (s : State) : Result := .next (addToA (.mem (.izy z)) s)

/-- $75 ADC $nn,X (R170). -/
def execAdcZpx (z : Byte) (s : State) : Result := .next (addToA (.mem (.zpx z)) s)

/-- $79 ADC $nnnn,Y (R170). -/
def execAdcAby (w : Word) (s : State) : Result := .next (addToA (.mem (.aby w)) s)

/-- $7D ADC $nnnn,X (R170). -/
def execAdcAbx (w : Word) (s : State) : Result := .next (addToA (.mem (.abx w)) s)

/-- $88 DEY (R180). -/
def execDey (s : State) : Result := .next ({ s.idle with y := s.y - 1, p := s.p.setZN (s.y - 1) }.retire 1)

/-- $C0 CPY #$nn (R174). -/
def execCpyImm (n : Byte) (s : State) : Result := .next (compareWith s.y (.imm n) s)

/-- $C1 CMP ($nn,X) (R172). -/
def execCmpIzx (z : Byte) (s : State) : Result := .next (compareWith s.a (.mem (.izx z)) s)

/-- $C4 CPY $nn (R174). -/
def execCpyZp (z : Byte) (s : State) : Result := .next (compareWith s.y (.mem (.zp z)) s)

/-- $C5 CMP $nn (R172). -/
def execCmpZp (z : Byte) (s : State) : Result := .next (compareWith s.a (.mem (.zp z)) s)

/-- $C6 DEC $nn (R176). -/
def execDecZp (z : Byte) (s : State) : Result := .next (modifyByte (.zp z) decValue decFlags s)

/-- $C8 INY (R178). -/
def execIny (s : State) : Result := .next ({ s.idle with y := s.y + 1, p := s.p.setZN (s.y + 1) }.retire 1)

/-- $C9 CMP #$nn (R172). -/
def execCmpImm (n : Byte) (s : State) : Result := .next (compareWith s.a (.imm n) s)

/-- $CA DEX (R179). -/
def execDex (s : State) : Result := .next ({ s.idle with x := s.x - 1, p := s.p.setZN (s.x - 1) }.retire 1)

/-- $CC CPY $nnnn (R174). -/
def execCpyAbs (w : Word) (s : State) : Result := .next (compareWith s.y (.mem (.abs w)) s)

/-- $CD CMP $nnnn (R172). -/
def execCmpAbs (w : Word) (s : State) : Result := .next (compareWith s.a (.mem (.abs w)) s)

/-- $CE DEC $nnnn (R176). -/
def execDecAbs (w : Word) (s : State) : Result := .next (modifyByte (.abs w) decValue decFlags s)

/-- $D1 CMP ($nn),Y (R172). -/
def execCmpIzy (z : Byte) (s : State) : Result := .next (compareWith s.a (.mem (.izy z)) s)

/-- $D5 CMP $nn,X (R172). -/
def execCmpZpx (z : Byte) (s : State) : Result := .next (compareWith s.a (.mem (.zpx z)) s)

/-- $D6 DEC $nn,X (R176). -/
def execDecZpx (z : Byte) (s : State) : Result := .next (modifyByte (.zpx z) decValue decFlags s)

/-- $D9 CMP $nnnn,Y (R172). -/
def execCmpAby (w : Word) (s : State) : Result := .next (compareWith s.a (.mem (.aby w)) s)

/-- $DD CMP $nnnn,X (R172). -/
def execCmpAbx (w : Word) (s : State) : Result := .next (compareWith s.a (.mem (.abx w)) s)

/-- $DE DEC $nnnn,X (R176). -/
def execDecAbx (w : Word) (s : State) : Result := .next (modifyByte (.abx w) decValue decFlags s)

/-- $E0 CPX #$nn (R173). -/
def execCpxImm (n : Byte) (s : State) : Result := .next (compareWith s.x (.imm n) s)

/-- $E1 SBC ($nn,X) (R171). -/
def execSbcIzx (z : Byte) (s : State) : Result := .next (subFromA (.mem (.izx z)) s)

/-- $E4 CPX $nn (R173). -/
def execCpxZp (z : Byte) (s : State) : Result := .next (compareWith s.x (.mem (.zp z)) s)

/-- $E5 SBC $nn (R171). -/
def execSbcZp (z : Byte) (s : State) : Result := .next (subFromA (.mem (.zp z)) s)

/-- $E6 INC $nn (R175). -/
def execIncZp (z : Byte) (s : State) : Result := .next (modifyByte (.zp z) incValue incFlags s)

/-- $E8 INX (R177). -/
def execInx (s : State) : Result := .next ({ s.idle with x := s.x + 1, p := s.p.setZN (s.x + 1) }.retire 1)

/-- $E9 SBC #$nn (R171). -/
def execSbcImm (n : Byte) (s : State) : Result := .next (subFromA (.imm n) s)

/-- $EC CPX $nnnn (R173). -/
def execCpxAbs (w : Word) (s : State) : Result := .next (compareWith s.x (.mem (.abs w)) s)

/-- $ED SBC $nnnn (R171). -/
def execSbcAbs (w : Word) (s : State) : Result := .next (subFromA (.mem (.abs w)) s)

/-- $EE INC $nnnn (R175). -/
def execIncAbs (w : Word) (s : State) : Result := .next (modifyByte (.abs w) incValue incFlags s)

/-- $F1 SBC ($nn),Y (R171). -/
def execSbcIzy (z : Byte) (s : State) : Result := .next (subFromA (.mem (.izy z)) s)

/-- $F5 SBC $nn,X (R171). -/
def execSbcZpx (z : Byte) (s : State) : Result := .next (subFromA (.mem (.zpx z)) s)

/-- $F6 INC $nn,X (R175). -/
def execIncZpx (z : Byte) (s : State) : Result := .next (modifyByte (.zpx z) incValue incFlags s)

/-- $F9 SBC $nnnn,Y (R171). -/
def execSbcAby (w : Word) (s : State) : Result := .next (subFromA (.mem (.aby w)) s)

/-- $FD SBC $nnnn,X (R171). -/
def execSbcAbx (w : Word) (s : State) : Result := .next (subFromA (.mem (.abx w)) s)

/-- $FE INC $nnnn,X (R175). -/
def execIncAbx (w : Word) (s : State) : Result := .next (modifyByte (.abx w) incValue incFlags s)

end Sys2Proof.Machine
end

