-- ==== Sys2Proof/Machine/ControlTransfer.lean ====
section
/-! DEFINITION. Branches, jumps, subroutines (44_control_transfer.md, R210 to R222). Each instruction has a definition of its own. -/

namespace Sys2Proof.Machine

/-- Target of a branch at `pc`: "relative to the address of the next instruction" (R115). -/
def branchTarget (pc : Word) (r : Byte) : Word := pc + 2 + sext16 r

/-- The eight branches (R210), with the dummy reads of a taken branch (R375). -/
def branchIf (taken : Bool) (r : Byte) (s : State) : State :=
  let next := s.pc + 2
  let target := branchTarget s.pc r
  if taken then
    let s1 := s.readCycle next
    let s2 := if hiByte target = hiByte next then s1 else s1.readCycle (wordOf (loByte target) (hiByte next))
    s2.retireAt target
  else s.retireAt next

/-- Address of the second byte of a `JMP (abs)` pointer: same page as the first (R116). -/
def pointerHigh (w : Word) : Word := wordOf (loByte w + 1) (hiByte w)

/-- JMP indirect (R220). -/
def jumpIndirect (w : Word) (s : State) : State :=
  let s1 := s.readCycle w
  (s1.readCycle (pointerHigh w)).retireAt (wordOf (s.busRead w) (s1.busRead (pointerHigh w)))

/-- JSR (R221, R376): a dummy read of the stack, the pushes of `pc + 2`, and only then the read of the target's high
byte at `pc + 2`; `w` is the operand as fetched, of which the low byte is used (log 17). -/
def callSubroutine (w : Word) (s : State) : State :=
  let ret := s.pc + 2
  let t := (s.stackIdle.push (hiByte ret)).push (loByte ret)
  (t.readCycle ret).retireAt (wordOf (loByte w) (t.busRead ret))

/-- RTS: `pc <- ({hi, lo} + 1) mod 65536`, with the dummy reads of R376 (R222). -/
def returnFromSubroutine (s : State) : State :=
  let t := s.idle.stackIdle
  let t1 := t.pulled
  let back := wordOf t.pullValue t1.pullValue
  (t1.pulled.readCycle back).retireAt (back + 1)

/-- $10 BPL label (R216). -/
def execBplRel (r : Byte) (s : State) : Result := .next (branchIf (!s.p.n) r s)

/-- $20 JSR $nnnn (R221). -/
def execJsrAbs (w : Word) (s : State) : Result := .next (callSubroutine w s)

/-- $30 BMI label (R215). -/
def execBmiRel (r : Byte) (s : State) : Result := .next (branchIf s.p.n r s)

/-- $4C JMP $nnnn (R219). -/
def execJmpAbs (w : Word) (s : State) : Result := .next (s.retireAt w)

/-- $50 BVC label (R217). -/
def execBvcRel (r : Byte) (s : State) : Result := .next (branchIf (!s.p.v) r s)

/-- $60 RTS (R222). -/
def execRts (s : State) : Result := .next (returnFromSubroutine s)

/-- $6C JMP ($nnnn) (R220). -/
def execJmpInd (w : Word) (s : State) : Result := .next (jumpIndirect w s)

/-- $70 BVS label (R218). -/
def execBvsRel (r : Byte) (s : State) : Result := .next (branchIf s.p.v r s)

/-- $90 BCC label (R211). -/
def execBccRel (r : Byte) (s : State) : Result := .next (branchIf (!s.p.c) r s)

/-- $B0 BCS label (R212). -/
def execBcsRel (r : Byte) (s : State) : Result := .next (branchIf s.p.c r s)

/-- $D0 BNE label (R214). -/
def execBneRel (r : Byte) (s : State) : Result := .next (branchIf (!s.p.z) r s)

/-- $F0 BEQ label (R213). -/
def execBeqRel (r : Byte) (s : State) : Result := .next (branchIf s.p.z r s)

end Sys2Proof.Machine
end

