-- ==== Sys2Proof/Machine/FlagSystem.lean ====
section
/-! DEFINITION. Flag instructions, NOP, BRK and RTI (45_flag_system.md, R230 to R239). Each instruction has a definition of its own. -/

namespace Sys2Proof.Machine

/-- CLI and SEI: `I <- b`, while the IRQ gate of the coming boundary sees the old `I` (R232, R233, R42). -/
def setInterruptDisable (b : Bool) (s : State) : State :=
  { s.idle with p := { s.p with i := b }, pc := s.pc + 1, iPoll := s.p.i }

/-- BRK: the padding byte is read, then the interrupt entry with B = 1 and return address `pc + 2` (R238). A pending NMI
takes the vector (R314). -/
def breakInterrupt (s : State) : State := s.idle.enter (s.pc + 2) true irqVector

/-- $00 BRK (R238). -/
def execBrk (s : State) : Result := .next (breakInterrupt s)

/-- $18 CLC (R230). -/
def execClc (s : State) : Result := .next ({ s.idle with p := { s.p with c := false } }.retire 1)

/-- $38 SEC (R231). -/
def execSec (s : State) : Result := .next ({ s.idle with p := { s.p with c := true } }.retire 1)

/-- $40 RTI (R239). -/
def execRti (s : State) : Result := .next s.idle.stackIdle.returnFromInterrupt

/-- $58 CLI (R232). -/
def execCli (s : State) : Result := .next (setInterruptDisable false s)

/-- $78 SEI (R233). -/
def execSei (s : State) : Result := .next (setInterruptDisable true s)

/-- $B8 CLV (R236). -/
def execClv (s : State) : Result := .next ({ s.idle with p := { s.p with v := false } }.retire 1)

/-- $D8 CLD (R234). -/
def execCld (s : State) : Result := .next ({ s.idle with p := { s.p with d := false } }.retire 1)

/-- $EA NOP (R237). -/
def execNop (s : State) : Result := .next (s.idle.retire 1)

/-- $F8 SED (R235). -/
def execSed (s : State) : Result := .next ({ s.idle with p := { s.p with d := true } }.retire 1)

end Sys2Proof.Machine
end

