-- ==== Sys2Proof/Machine/LoadStore.lean ====
section
/-! DEFINITION. Loads, stores and register transfers (40_load_store_transfer.md, R140 to R151). Each instruction has a definition of its own. -/

namespace Sys2Proof.Machine

/-- LDA: `A <- v; SetZN(v)` (R140). -/
def loadA (o : Operand) (s : State) : State :=
  { s.operandRead o with a := s.operandValue o, p := s.p.setZN (s.operandValue o) }.retire o.length

/-- LDX: `X <- v; SetZN(v)` (R141). -/
def loadX (o : Operand) (s : State) : State :=
  { s.operandRead o with x := s.operandValue o, p := s.p.setZN (s.operandValue o) }.retire o.length

/-- LDY: `Y <- v; SetZN(v)` (R142). -/
def loadY (o : Operand) (s : State) : State :=
  { s.operandRead o with y := s.operandValue o, p := s.p.setZN (s.operandValue o) }.retire o.length

/-- A store: `MemWrite(ea, 1, v)`, no flag (R143, R144, R145, R255). -/
def storeByte (m : Mode) (v : Byte) (s : State) : State := (s.stored m v).retire m.length

/-- $81 STA ($nn,X) (R143). -/
def execStaIzx (z : Byte) (s : State) : Result := .next (storeByte (.izx z) s.a s)

/-- $84 STY $nn (R145). -/
def execStyZp (z : Byte) (s : State) : Result := .next (storeByte (.zp z) s.y s)

/-- $85 STA $nn (R143). -/
def execStaZp (z : Byte) (s : State) : Result := .next (storeByte (.zp z) s.a s)

/-- $86 STX $nn (R144). -/
def execStxZp (z : Byte) (s : State) : Result := .next (storeByte (.zp z) s.x s)

/-- $8A TXA (R148). -/
def execTxa (s : State) : Result := .next ({ s.idle with a := s.x, p := s.p.setZN s.x }.retire 1)

/-- $8C STY $nnnn (R145). -/
def execStyAbs (w : Word) (s : State) : Result := .next (storeByte (.abs w) s.y s)

/-- $8D STA $nnnn (R143). -/
def execStaAbs (w : Word) (s : State) : Result := .next (storeByte (.abs w) s.a s)

/-- $8E STX $nnnn (R144). -/
def execStxAbs (w : Word) (s : State) : Result := .next (storeByte (.abs w) s.x s)

/-- $91 STA ($nn),Y (R143). -/
def execStaIzy (z : Byte) (s : State) : Result := .next (storeByte (.izy z) s.a s)

/-- $94 STY $nn,X (R145). -/
def execStyZpx (z : Byte) (s : State) : Result := .next (storeByte (.zpx z) s.y s)

/-- $95 STA $nn,X (R143). -/
def execStaZpx (z : Byte) (s : State) : Result := .next (storeByte (.zpx z) s.a s)

/-- $96 STX $nn,Y (R144). -/
def execStxZpy (z : Byte) (s : State) : Result := .next (storeByte (.zpy z) s.x s)

/-- $98 TYA (R149). -/
def execTya (s : State) : Result := .next ({ s.idle with a := s.y, p := s.p.setZN s.y }.retire 1)

/-- $99 STA $nnnn,Y (R143). -/
def execStaAby (w : Word) (s : State) : Result := .next (storeByte (.aby w) s.a s)

/-- $9A TXS (R151). -/
def execTxs (s : State) : Result := .next ({ s.idle with sp := s.x }.retire 1)

/-- $9D STA $nnnn,X (R143). -/
def execStaAbx (w : Word) (s : State) : Result := .next (storeByte (.abx w) s.a s)

/-- $A0 LDY #$nn (R142). -/
def execLdyImm (n : Byte) (s : State) : Result := .next (loadY (.imm n) s)

/-- $A1 LDA ($nn,X) (R140). -/
def execLdaIzx (z : Byte) (s : State) : Result := .next (loadA (.mem (.izx z)) s)

/-- $A2 LDX #$nn (R141). -/
def execLdxImm (n : Byte) (s : State) : Result := .next (loadX (.imm n) s)

/-- $A4 LDY $nn (R142). -/
def execLdyZp (z : Byte) (s : State) : Result := .next (loadY (.mem (.zp z)) s)

/-- $A5 LDA $nn (R140). -/
def execLdaZp (z : Byte) (s : State) : Result := .next (loadA (.mem (.zp z)) s)

/-- $A6 LDX $nn (R141). -/
def execLdxZp (z : Byte) (s : State) : Result := .next (loadX (.mem (.zp z)) s)

/-- $A8 TAY (R147). -/
def execTay (s : State) : Result := .next ({ s.idle with y := s.a, p := s.p.setZN s.a }.retire 1)

/-- $A9 LDA #$nn (R140). -/
def execLdaImm (n : Byte) (s : State) : Result := .next (loadA (.imm n) s)

/-- $AA TAX (R146). -/
def execTax (s : State) : Result := .next ({ s.idle with x := s.a, p := s.p.setZN s.a }.retire 1)

/-- $AC LDY $nnnn (R142). -/
def execLdyAbs (w : Word) (s : State) : Result := .next (loadY (.mem (.abs w)) s)

/-- $AD LDA $nnnn (R140). -/
def execLdaAbs (w : Word) (s : State) : Result := .next (loadA (.mem (.abs w)) s)

/-- $AE LDX $nnnn (R141). -/
def execLdxAbs (w : Word) (s : State) : Result := .next (loadX (.mem (.abs w)) s)

/-- $B1 LDA ($nn),Y (R140). -/
def execLdaIzy (z : Byte) (s : State) : Result := .next (loadA (.mem (.izy z)) s)

/-- $B4 LDY $nn,X (R142). -/
def execLdyZpx (z : Byte) (s : State) : Result := .next (loadY (.mem (.zpx z)) s)

/-- $B5 LDA $nn,X (R140). -/
def execLdaZpx (z : Byte) (s : State) : Result := .next (loadA (.mem (.zpx z)) s)

/-- $B6 LDX $nn,Y (R141). -/
def execLdxZpy (z : Byte) (s : State) : Result := .next (loadX (.mem (.zpy z)) s)

/-- $B9 LDA $nnnn,Y (R140). -/
def execLdaAby (w : Word) (s : State) : Result := .next (loadA (.mem (.aby w)) s)

/-- $BA TSX (R150). -/
def execTsx (s : State) : Result := .next ({ s.idle with x := s.sp, p := s.p.setZN s.sp }.retire 1)

/-- $BC LDY $nnnn,X (R142). -/
def execLdyAbx (w : Word) (s : State) : Result := .next (loadY (.mem (.abx w)) s)

/-- $BD LDA $nnnn,X (R140). -/
def execLdaAbx (w : Word) (s : State) : Result := .next (loadA (.mem (.abx w)) s)

/-- $BE LDX $nnnn,Y (R141). -/
def execLdxAby (w : Word) (s : State) : Result := .next (loadX (.mem (.aby w)) s)

end Sys2Proof.Machine
end

