-- ==== Sys2Proof/Machine/Logic.lean ====
section
/-! DEFINITION. Logic, bit test, shifts and rotates (43_logic_shift.md, R190 to R197). Each instruction has a definition of its own. -/

namespace Sys2Proof.Machine

/-- AND, ORA, EOR: `A <- f(A, M); SetZN(A)` (R190, R191, R192). -/
def logicA (f : Byte → Byte → Byte) (o : Operand) (s : State) : State :=
  let r := f s.a (s.operandValue o)
  { s.operandRead o with a := r, p := s.p.setZN r }.retire o.length

/-- BIT: flags only (R193). -/
def bitTest (o : Operand) (s : State) : State :=
  { s.operandRead o with p := bitFlags s.a (s.operandValue o) s.p }.retire o.length

/-- A shift or rotate of `A`: no memory data access, one dummy read (R105, R194 to R197, R372). -/
def shiftA (value : Byte → Flags → Byte) (flags : Byte → Flags → Flags) (s : State) : State :=
  { s.idle with a := value s.a s.p, p := flags s.a s.p }.retire 1

/-- $01 ORA ($nn,X) (R191). -/
def execOraIzx (z : Byte) (s : State) : Result := .next (logicA (· ||| ·) (.mem (.izx z)) s)

/-- $05 ORA $nn (R191). -/
def execOraZp (z : Byte) (s : State) : Result := .next (logicA (· ||| ·) (.mem (.zp z)) s)

/-- $06 ASL $nn (R194). -/
def execAslZp (z : Byte) (s : State) : Result := .next (modifyByte (.zp z) aslValue aslFlags s)

/-- $09 ORA #$nn (R191). -/
def execOraImm (n : Byte) (s : State) : Result := .next (logicA (· ||| ·) (.imm n) s)

/-- $0A ASL A (R194). -/
def execAslAcc (s : State) : Result := .next (shiftA aslValue aslFlags s)

/-- $0D ORA $nnnn (R191). -/
def execOraAbs (w : Word) (s : State) : Result := .next (logicA (· ||| ·) (.mem (.abs w)) s)

/-- $0E ASL $nnnn (R194). -/
def execAslAbs (w : Word) (s : State) : Result := .next (modifyByte (.abs w) aslValue aslFlags s)

/-- $11 ORA ($nn),Y (R191). -/
def execOraIzy (z : Byte) (s : State) : Result := .next (logicA (· ||| ·) (.mem (.izy z)) s)

/-- $15 ORA $nn,X (R191). -/
def execOraZpx (z : Byte) (s : State) : Result := .next (logicA (· ||| ·) (.mem (.zpx z)) s)

/-- $16 ASL $nn,X (R194). -/
def execAslZpx (z : Byte) (s : State) : Result := .next (modifyByte (.zpx z) aslValue aslFlags s)

/-- $19 ORA $nnnn,Y (R191). -/
def execOraAby (w : Word) (s : State) : Result := .next (logicA (· ||| ·) (.mem (.aby w)) s)

/-- $1D ORA $nnnn,X (R191). -/
def execOraAbx (w : Word) (s : State) : Result := .next (logicA (· ||| ·) (.mem (.abx w)) s)

/-- $1E ASL $nnnn,X (R194). -/
def execAslAbx (w : Word) (s : State) : Result := .next (modifyByte (.abx w) aslValue aslFlags s)

/-- $21 AND ($nn,X) (R190). -/
def execAndIzx (z : Byte) (s : State) : Result := .next (logicA (· &&& ·) (.mem (.izx z)) s)

/-- $24 BIT $nn (R193). -/
def execBitZp (z : Byte) (s : State) : Result := .next (bitTest (.mem (.zp z)) s)

/-- $25 AND $nn (R190). -/
def execAndZp (z : Byte) (s : State) : Result := .next (logicA (· &&& ·) (.mem (.zp z)) s)

/-- $26 ROL $nn (R196). -/
def execRolZp (z : Byte) (s : State) : Result := .next (modifyByte (.zp z) rolValue rolFlags s)

/-- $29 AND #$nn (R190). -/
def execAndImm (n : Byte) (s : State) : Result := .next (logicA (· &&& ·) (.imm n) s)

/-- $2A ROL A (R196). -/
def execRolAcc (s : State) : Result := .next (shiftA rolValue rolFlags s)

/-- $2C BIT $nnnn (R193). -/
def execBitAbs (w : Word) (s : State) : Result := .next (bitTest (.mem (.abs w)) s)

/-- $2D AND $nnnn (R190). -/
def execAndAbs (w : Word) (s : State) : Result := .next (logicA (· &&& ·) (.mem (.abs w)) s)

/-- $2E ROL $nnnn (R196). -/
def execRolAbs (w : Word) (s : State) : Result := .next (modifyByte (.abs w) rolValue rolFlags s)

/-- $31 AND ($nn),Y (R190). -/
def execAndIzy (z : Byte) (s : State) : Result := .next (logicA (· &&& ·) (.mem (.izy z)) s)

/-- $35 AND $nn,X (R190). -/
def execAndZpx (z : Byte) (s : State) : Result := .next (logicA (· &&& ·) (.mem (.zpx z)) s)

/-- $36 ROL $nn,X (R196). -/
def execRolZpx (z : Byte) (s : State) : Result := .next (modifyByte (.zpx z) rolValue rolFlags s)

/-- $39 AND $nnnn,Y (R190). -/
def execAndAby (w : Word) (s : State) : Result := .next (logicA (· &&& ·) (.mem (.aby w)) s)

/-- $3D AND $nnnn,X (R190). -/
def execAndAbx (w : Word) (s : State) : Result := .next (logicA (· &&& ·) (.mem (.abx w)) s)

/-- $3E ROL $nnnn,X (R196). -/
def execRolAbx (w : Word) (s : State) : Result := .next (modifyByte (.abx w) rolValue rolFlags s)

/-- $41 EOR ($nn,X) (R192). -/
def execEorIzx (z : Byte) (s : State) : Result := .next (logicA (· ^^^ ·) (.mem (.izx z)) s)

/-- $45 EOR $nn (R192). -/
def execEorZp (z : Byte) (s : State) : Result := .next (logicA (· ^^^ ·) (.mem (.zp z)) s)

/-- $46 LSR $nn (R195). -/
def execLsrZp (z : Byte) (s : State) : Result := .next (modifyByte (.zp z) lsrValue lsrFlags s)

/-- $49 EOR #$nn (R192). -/
def execEorImm (n : Byte) (s : State) : Result := .next (logicA (· ^^^ ·) (.imm n) s)

/-- $4A LSR A (R195). -/
def execLsrAcc (s : State) : Result := .next (shiftA lsrValue lsrFlags s)

/-- $4D EOR $nnnn (R192). -/
def execEorAbs (w : Word) (s : State) : Result := .next (logicA (· ^^^ ·) (.mem (.abs w)) s)

/-- $4E LSR $nnnn (R195). -/
def execLsrAbs (w : Word) (s : State) : Result := .next (modifyByte (.abs w) lsrValue lsrFlags s)

/-- $51 EOR ($nn),Y (R192). -/
def execEorIzy (z : Byte) (s : State) : Result := .next (logicA (· ^^^ ·) (.mem (.izy z)) s)

/-- $55 EOR $nn,X (R192). -/
def execEorZpx (z : Byte) (s : State) : Result := .next (logicA (· ^^^ ·) (.mem (.zpx z)) s)

/-- $56 LSR $nn,X (R195). -/
def execLsrZpx (z : Byte) (s : State) : Result := .next (modifyByte (.zpx z) lsrValue lsrFlags s)

/-- $59 EOR $nnnn,Y (R192). -/
def execEorAby (w : Word) (s : State) : Result := .next (logicA (· ^^^ ·) (.mem (.aby w)) s)

/-- $5D EOR $nnnn,X (R192). -/
def execEorAbx (w : Word) (s : State) : Result := .next (logicA (· ^^^ ·) (.mem (.abx w)) s)

/-- $5E LSR $nnnn,X (R195). -/
def execLsrAbx (w : Word) (s : State) : Result := .next (modifyByte (.abx w) lsrValue lsrFlags s)

/-- $66 ROR $nn (R197). -/
def execRorZp (z : Byte) (s : State) : Result := .next (modifyByte (.zp z) rorValue rorFlags s)

/-- $6A ROR A (R197). -/
def execRorAcc (s : State) : Result := .next (shiftA rorValue rorFlags s)

/-- $6E ROR $nnnn (R197). -/
def execRorAbs (w : Word) (s : State) : Result := .next (modifyByte (.abs w) rorValue rorFlags s)

/-- $76 ROR $nn,X (R197). -/
def execRorZpx (z : Byte) (s : State) : Result := .next (modifyByte (.zpx z) rorValue rorFlags s)

/-- $7E ROR $nnnn,X (R197). -/
def execRorAbx (w : Word) (s : State) : Result := .next (modifyByte (.abx w) rorValue rorFlags s)

end Sys2Proof.Machine
end

