-- ==== Sys2Proof/Machine/Stack.lean ====
section
/-! DEFINITION. The stack instructions (41_stack.md, R160 to R163). Each instruction has a definition of its own. -/

namespace Sys2Proof.Machine

/-- PLA: `v <- Pull(); A <- v; SetZN(v)` after the two dummy reads (R162, R376). -/
def pullA (s : State) : State :=
  let t := s.idle.stackIdle
  { t.pulled with a := t.pullValue, p := s.p.setZN t.pullValue }.retire 1

/-- PLP: `UnpackP(Pull())`; "i_poll <- I_before" (R163, R42). -/
def pullFlags (s : State) : State :=
  let t := s.idle.stackIdle
  { t.pulled with p := Flags.unpack t.pullValue, pc := s.pc + 1, iPoll := s.p.i }

/-- $08 PHP (R161). -/
def execPhp (s : State) : Result := .next ((s.idle.push (s.p.pack true)).retire 1)

/-- $28 PLP (R163). -/
def execPlp (s : State) : Result := .next (pullFlags s)

/-- $48 PHA (R160). -/
def execPha (s : State) : Result := .next ((s.idle.push s.a).retire 1)

/-- $68 PLA (R162). -/
def execPla (s : State) : Result := .next (pullA s)

end Sys2Proof.Machine
end

