-- ==== Sys2Proof/Machine/Unofficial.lean ====
section
/-! DEFINITION. The undocumented opcodes (46_unofficial.md, R251 to R276): ADMIT_UNOFFICIAL = true (log 1). The step
refuses the seven unstable ones at their fetch (R250); their meanings, which a step reaches only under the model's own
`runUnstable`, leave free values (log 2). JAM jams (log 3). Each instruction has a definition of its own. -/

namespace Sys2Proof.Machine

/-- SLO (R251). -/
def shiftLeftOr (m : Mode) (s : State) : State :=
  let v := aslValue (s.modifyOld m) s.p
  { s.modified m v with a := s.a ||| v, p := (aslFlags (s.modifyOld m) s.p).setZN (s.a ||| v) }.retire m.length

/-- RLA (R252). -/
def rotateLeftAnd (m : Mode) (s : State) : State :=
  let v := rolValue (s.modifyOld m) s.p
  { s.modified m v with a := s.a &&& v, p := (rolFlags (s.modifyOld m) s.p).setZN (s.a &&& v) }.retire m.length

/-- SRE (R253). -/
def shiftRightEor (m : Mode) (s : State) : State :=
  let v := lsrValue (s.modifyOld m) s.p
  { s.modified m v with a := s.a ^^^ v, p := (lsrFlags (s.modifyOld m) s.p).setZN (s.a ^^^ v) }.retire m.length

/-- RRA: the addition's carry in is the bit rotated out (R254). -/
def rotateRightAdd (m : Mode) (s : State) : State :=
  let v := rorValue (s.modifyOld m) s.p
  let p1 := rorFlags (s.modifyOld m) s.p
  { s.modified m v with a := addResult s.a v p1.c, p := addFlags s.a v p1 }.retire m.length

/-- DCP (R257). -/
def decrementCompare (m : Mode) (s : State) : State :=
  let v := decValue (s.modifyOld m) s.p
  { s.modified m v with p := compareFlags s.a v s.p }.retire m.length

/-- ISC: the subtraction uses the incoming C (R258). -/
def incrementSubtract (m : Mode) (s : State) : State :=
  let v := incValue (s.modifyOld m) s.p
  { s.modified m v with a := subResult s.a v s.p.c, p := subFlags s.a v s.p }.retire m.length

/-- LAX (R256). -/
def loadAX (o : Operand) (s : State) : State :=
  let v := s.operandValue o
  { s.operandRead o with a := v, x := v, p := s.p.setZN v }.retire o.length

/-- LAS: `v <- MemRead(ea, 1) & S` into A, X and S (R265). -/
def loadAXS (o : Operand) (s : State) : State :=
  let v := s.operandValue o &&& s.sp
  { s.operandRead o with a := v, x := v, sp := v, p := s.p.setZN v }.retire o.length

/-- ANC: C is made equal to N (R259). -/
def andCarry (n : Byte) (s : State) : State :=
  let r := s.a &&& n
  { s with a := r, p := { s.p.setZN r with c := r.getLsbD 7 } }.retire 2

/-- ALR (R260). -/
def andShiftRight (n : Byte) (s : State) : State :=
  { s with a := lsrValue (s.a &&& n) s.p, p := lsrFlags (s.a &&& n) s.p }.retire 2

/-- ARR (R261). -/
def andRotateRight (n : Byte) (s : State) : State :=
  { s with a := arrResult s.a n s.p, p := arrFlags s.a n s.p }.retire 2

/-- AXS: `t <- A & X; X <- t - operand`, C and Z and N as a CMP of `t` (R262). -/
def subtractIntoX (n : Byte) (s : State) : State :=
  { s with x := (s.a &&& s.x) - n, p := compareFlags (s.a &&& s.x) n s.p }.retire 2

/-- The undocumented NOPs with an operand: the operand is read and discarded (R264). -/
def readAndDiscard (o : Operand) (s : State) : State := (s.operandRead o).retire o.length

/-- ANE: A becomes a FREE VALUE, Z and N follow it (R266; log 2). -/
def unstableA (_ : Byte) (s : State) : State :=
  { s.drawn with a := s.drawValue, p := s.p.setZN s.drawValue }.retire 2

/-- LXA: A and X become one FREE VALUE, Z and N follow it (R267; log 2). -/
def unstableAX (_ : Byte) (s : State) : State :=
  { s.drawn with a := s.drawValue, x := s.drawValue, p := s.p.setZN s.drawValue }.retire 2

/-- The store of SHA, SHX, SHY and TAS: the byte is a FREE VALUE; on a page cross the high byte of the address is a FREE
VALUE too ("on a page cross the high byte of ea is replaced"; R268 to R271; log 2). -/
def State.unstableStored (s : State) (m : Mode) : State :=
  let t := s.addressed m .write
  let t1 := t.drawn
  if s.pageCross m then t1.drawn.writeCycle (wordOf (loByte (s.ea m)) t1.drawValue) t.drawValue
  else t1.writeCycle (s.ea m) t.drawValue

/-- SHA, SHX, SHY: no register, no flag (R268, R269, R270; log 2). -/
def unstableStore (m : Mode) (s : State) : State := (s.unstableStored m).retire m.length

/-- TAS: S becomes a FREE VALUE, then the store (R271; log 2). -/
def unstableStackStore (m : Mode) (s : State) : State :=
  { s.drawn.unstableStored m with sp := s.drawValue }.retire m.length

/-- JAM: the same two accesses as a one-byte instruction, then `jammed <- 1`; `pc` stays (R276, R372; log 3). -/
def jam (s : State) : State := { s.idle with jammed := true }

/-- $02 JAM (R276). -/
def execJam02 (s : State) : Result := .next (jam s)

/-- $03 SLO ($nn,X) (R251). -/
def execSloIzx (z : Byte) (s : State) : Result := .next (shiftLeftOr (.izx z) s)

/-- $04 NOP $nn (R264). -/
def execNopZp04 (z : Byte) (s : State) : Result := .next (readAndDiscard (.mem (.zp z)) s)

/-- $07 SLO $nn (R251). -/
def execSloZp (z : Byte) (s : State) : Result := .next (shiftLeftOr (.zp z) s)

/-- $0B ANC #$nn (R259). -/
def execAncImm0B (n : Byte) (s : State) : Result := .next (andCarry n s)

/-- $0C NOP $nnnn (R264). -/
def execNopAbs (w : Word) (s : State) : Result := .next (readAndDiscard (.mem (.abs w)) s)

/-- $0F SLO $nnnn (R251). -/
def execSloAbs (w : Word) (s : State) : Result := .next (shiftLeftOr (.abs w) s)

/-- $12 JAM (R276). -/
def execJam12 (s : State) : Result := .next (jam s)

/-- $13 SLO ($nn),Y (R251). -/
def execSloIzy (z : Byte) (s : State) : Result := .next (shiftLeftOr (.izy z) s)

/-- $14 NOP $nn,X (R264). -/
def execNopZpx14 (z : Byte) (s : State) : Result := .next (readAndDiscard (.mem (.zpx z)) s)

/-- $17 SLO $nn,X (R251). -/
def execSloZpx (z : Byte) (s : State) : Result := .next (shiftLeftOr (.zpx z) s)

/-- $1A NOP (R264). -/
def execNop1A (s : State) : Result := .next (s.idle.retire 1)

/-- $1B SLO $nnnn,Y (R251). -/
def execSloAby (w : Word) (s : State) : Result := .next (shiftLeftOr (.aby w) s)

/-- $1C NOP $nnnn,X (R264). -/
def execNopAbx1C (w : Word) (s : State) : Result := .next (readAndDiscard (.mem (.abx w)) s)

/-- $1F SLO $nnnn,X (R251). -/
def execSloAbx (w : Word) (s : State) : Result := .next (shiftLeftOr (.abx w) s)

/-- $22 JAM (R276). -/
def execJam22 (s : State) : Result := .next (jam s)

/-- $23 RLA ($nn,X) (R252). -/
def execRlaIzx (z : Byte) (s : State) : Result := .next (rotateLeftAnd (.izx z) s)

/-- $27 RLA $nn (R252). -/
def execRlaZp (z : Byte) (s : State) : Result := .next (rotateLeftAnd (.zp z) s)

/-- $2B ANC #$nn (R259). -/
def execAncImm2B (n : Byte) (s : State) : Result := .next (andCarry n s)

/-- $2F RLA $nnnn (R252). -/
def execRlaAbs (w : Word) (s : State) : Result := .next (rotateLeftAnd (.abs w) s)

/-- $32 JAM (R276). -/
def execJam32 (s : State) : Result := .next (jam s)

/-- $33 RLA ($nn),Y (R252). -/
def execRlaIzy (z : Byte) (s : State) : Result := .next (rotateLeftAnd (.izy z) s)

/-- $34 NOP $nn,X (R264). -/
def execNopZpx34 (z : Byte) (s : State) : Result := .next (readAndDiscard (.mem (.zpx z)) s)

/-- $37 RLA $nn,X (R252). -/
def execRlaZpx (z : Byte) (s : State) : Result := .next (rotateLeftAnd (.zpx z) s)

/-- $3A NOP (R264). -/
def execNop3A (s : State) : Result := .next (s.idle.retire 1)

/-- $3B RLA $nnnn,Y (R252). -/
def execRlaAby (w : Word) (s : State) : Result := .next (rotateLeftAnd (.aby w) s)

/-- $3C NOP $nnnn,X (R264). -/
def execNopAbx3C (w : Word) (s : State) : Result := .next (readAndDiscard (.mem (.abx w)) s)

/-- $3F RLA $nnnn,X (R252). -/
def execRlaAbx (w : Word) (s : State) : Result := .next (rotateLeftAnd (.abx w) s)

/-- $42 JAM (R276). -/
def execJam42 (s : State) : Result := .next (jam s)

/-- $43 SRE ($nn,X) (R253). -/
def execSreIzx (z : Byte) (s : State) : Result := .next (shiftRightEor (.izx z) s)

/-- $44 NOP $nn (R264). -/
def execNopZp44 (z : Byte) (s : State) : Result := .next (readAndDiscard (.mem (.zp z)) s)

/-- $47 SRE $nn (R253). -/
def execSreZp (z : Byte) (s : State) : Result := .next (shiftRightEor (.zp z) s)

/-- $4B ALR #$nn (R260). -/
def execAlrImm (n : Byte) (s : State) : Result := .next (andShiftRight n s)

/-- $4F SRE $nnnn (R253). -/
def execSreAbs (w : Word) (s : State) : Result := .next (shiftRightEor (.abs w) s)

/-- $52 JAM (R276). -/
def execJam52 (s : State) : Result := .next (jam s)

/-- $53 SRE ($nn),Y (R253). -/
def execSreIzy (z : Byte) (s : State) : Result := .next (shiftRightEor (.izy z) s)

/-- $54 NOP $nn,X (R264). -/
def execNopZpx54 (z : Byte) (s : State) : Result := .next (readAndDiscard (.mem (.zpx z)) s)

/-- $57 SRE $nn,X (R253). -/
def execSreZpx (z : Byte) (s : State) : Result := .next (shiftRightEor (.zpx z) s)

/-- $5A NOP (R264). -/
def execNop5A (s : State) : Result := .next (s.idle.retire 1)

/-- $5B SRE $nnnn,Y (R253). -/
def execSreAby (w : Word) (s : State) : Result := .next (shiftRightEor (.aby w) s)

/-- $5C NOP $nnnn,X (R264). -/
def execNopAbx5C (w : Word) (s : State) : Result := .next (readAndDiscard (.mem (.abx w)) s)

/-- $5F SRE $nnnn,X (R253). -/
def execSreAbx (w : Word) (s : State) : Result := .next (shiftRightEor (.abx w) s)

/-- $62 JAM (R276). -/
def execJam62 (s : State) : Result := .next (jam s)

/-- $63 RRA ($nn,X) (R254). -/
def execRraIzx (z : Byte) (s : State) : Result := .next (rotateRightAdd (.izx z) s)

/-- $64 NOP $nn (R264). -/
def execNopZp64 (z : Byte) (s : State) : Result := .next (readAndDiscard (.mem (.zp z)) s)

/-- $67 RRA $nn (R254). -/
def execRraZp (z : Byte) (s : State) : Result := .next (rotateRightAdd (.zp z) s)

/-- $6B ARR #$nn (R261). -/
def execArrImm (n : Byte) (s : State) : Result := .next (andRotateRight n s)

/-- $6F RRA $nnnn (R254). -/
def execRraAbs (w : Word) (s : State) : Result := .next (rotateRightAdd (.abs w) s)

/-- $72 JAM (R276). -/
def execJam72 (s : State) : Result := .next (jam s)

/-- $73 RRA ($nn),Y (R254). -/
def execRraIzy (z : Byte) (s : State) : Result := .next (rotateRightAdd (.izy z) s)

/-- $74 NOP $nn,X (R264). -/
def execNopZpx74 (z : Byte) (s : State) : Result := .next (readAndDiscard (.mem (.zpx z)) s)

/-- $77 RRA $nn,X (R254). -/
def execRraZpx (z : Byte) (s : State) : Result := .next (rotateRightAdd (.zpx z) s)

/-- $7A NOP (R264). -/
def execNop7A (s : State) : Result := .next (s.idle.retire 1)

/-- $7B RRA $nnnn,Y (R254). -/
def execRraAby (w : Word) (s : State) : Result := .next (rotateRightAdd (.aby w) s)

/-- $7C NOP $nnnn,X (R264). -/
def execNopAbx7C (w : Word) (s : State) : Result := .next (readAndDiscard (.mem (.abx w)) s)

/-- $7F RRA $nnnn,X (R254). -/
def execRraAbx (w : Word) (s : State) : Result := .next (rotateRightAdd (.abx w) s)

/-- $80 NOP #$nn (R264). -/
def execNopImm80 (n : Byte) (s : State) : Result := .next (readAndDiscard (.imm n) s)

/-- $82 NOP #$nn (R264). -/
def execNopImm82 (n : Byte) (s : State) : Result := .next (readAndDiscard (.imm n) s)

/-- $83 SAX ($nn,X) (R255). -/
def execSaxIzx (z : Byte) (s : State) : Result := .next (storeByte (.izx z) (s.a &&& s.x) s)

/-- $87 SAX $nn (R255). -/
def execSaxZp (z : Byte) (s : State) : Result := .next (storeByte (.zp z) (s.a &&& s.x) s)

/-- $89 NOP #$nn (R264). -/
def execNopImm89 (n : Byte) (s : State) : Result := .next (readAndDiscard (.imm n) s)

/-- $8B ANE #$nn (R266). -/
def execAneImm (n : Byte) (s : State) : Result := .next (unstableA n s)

/-- $8F SAX $nnnn (R255). -/
def execSaxAbs (w : Word) (s : State) : Result := .next (storeByte (.abs w) (s.a &&& s.x) s)

/-- $92 JAM (R276). -/
def execJam92 (s : State) : Result := .next (jam s)

/-- $93 SHA ($nn),Y (R268). -/
def execShaIzy (z : Byte) (s : State) : Result := .next (unstableStore (.izy z) s)

/-- $97 SAX $nn,Y (R255). -/
def execSaxZpy (z : Byte) (s : State) : Result := .next (storeByte (.zpy z) (s.a &&& s.x) s)

/-- $9B TAS $nnnn,Y (R271). -/
def execTasAby (w : Word) (s : State) : Result := .next (unstableStackStore (.aby w) s)

/-- $9C SHY $nnnn,X (R270). -/
def execShyAbx (w : Word) (s : State) : Result := .next (unstableStore (.abx w) s)

/-- $9E SHX $nnnn,Y (R269). -/
def execShxAby (w : Word) (s : State) : Result := .next (unstableStore (.aby w) s)

/-- $9F SHA $nnnn,Y (R268). -/
def execShaAby (w : Word) (s : State) : Result := .next (unstableStore (.aby w) s)

/-- $A3 LAX ($nn,X) (R256). -/
def execLaxIzx (z : Byte) (s : State) : Result := .next (loadAX (.mem (.izx z)) s)

/-- $A7 LAX $nn (R256). -/
def execLaxZp (z : Byte) (s : State) : Result := .next (loadAX (.mem (.zp z)) s)

/-- $AB LXA #$nn (R267). -/
def execLxaImm (n : Byte) (s : State) : Result := .next (unstableAX n s)

/-- $AF LAX $nnnn (R256). -/
def execLaxAbs (w : Word) (s : State) : Result := .next (loadAX (.mem (.abs w)) s)

/-- $B2 JAM (R276). -/
def execJamB2 (s : State) : Result := .next (jam s)

/-- $B3 LAX ($nn),Y (R256). -/
def execLaxIzy (z : Byte) (s : State) : Result := .next (loadAX (.mem (.izy z)) s)

/-- $B7 LAX $nn,Y (R256). -/
def execLaxZpy (z : Byte) (s : State) : Result := .next (loadAX (.mem (.zpy z)) s)

/-- $BB LAS $nnnn,Y (R265). -/
def execLasAby (w : Word) (s : State) : Result := .next (loadAXS (.mem (.aby w)) s)

/-- $BF LAX $nnnn,Y (R256). -/
def execLaxAby (w : Word) (s : State) : Result := .next (loadAX (.mem (.aby w)) s)

/-- $C2 NOP #$nn (R264). -/
def execNopImmC2 (n : Byte) (s : State) : Result := .next (readAndDiscard (.imm n) s)

/-- $C3 DCP ($nn,X) (R257). -/
def execDcpIzx (z : Byte) (s : State) : Result := .next (decrementCompare (.izx z) s)

/-- $C7 DCP $nn (R257). -/
def execDcpZp (z : Byte) (s : State) : Result := .next (decrementCompare (.zp z) s)

/-- $CB AXS #$nn (R262). -/
def execAxsImm (n : Byte) (s : State) : Result := .next (subtractIntoX n s)

/-- $CF DCP $nnnn (R257). -/
def execDcpAbs (w : Word) (s : State) : Result := .next (decrementCompare (.abs w) s)

/-- $D2 JAM (R276). -/
def execJamD2 (s : State) : Result := .next (jam s)

/-- $D3 DCP ($nn),Y (R257). -/
def execDcpIzy (z : Byte) (s : State) : Result := .next (decrementCompare (.izy z) s)

/-- $D4 NOP $nn,X (R264). -/
def execNopZpxD4 (z : Byte) (s : State) : Result := .next (readAndDiscard (.mem (.zpx z)) s)

/-- $D7 DCP $nn,X (R257). -/
def execDcpZpx (z : Byte) (s : State) : Result := .next (decrementCompare (.zpx z) s)

/-- $DA NOP (R264). -/
def execNopDA (s : State) : Result := .next (s.idle.retire 1)

/-- $DB DCP $nnnn,Y (R257). -/
def execDcpAby (w : Word) (s : State) : Result := .next (decrementCompare (.aby w) s)

/-- $DC NOP $nnnn,X (R264). -/
def execNopAbxDC (w : Word) (s : State) : Result := .next (readAndDiscard (.mem (.abx w)) s)

/-- $DF DCP $nnnn,X (R257). -/
def execDcpAbx (w : Word) (s : State) : Result := .next (decrementCompare (.abx w) s)

/-- $E2 NOP #$nn (R264). -/
def execNopImmE2 (n : Byte) (s : State) : Result := .next (readAndDiscard (.imm n) s)

/-- $E3 ISC ($nn,X) (R258). -/
def execIscIzx (z : Byte) (s : State) : Result := .next (incrementSubtract (.izx z) s)

/-- $E7 ISC $nn (R258). -/
def execIscZp (z : Byte) (s : State) : Result := .next (incrementSubtract (.zp z) s)

/-- $EB SBC #$nn (R263). -/
def execSbcImmEB (n : Byte) (s : State) : Result := .next (subFromA (.imm n) s)

/-- $EF ISC $nnnn (R258). -/
def execIscAbs (w : Word) (s : State) : Result := .next (incrementSubtract (.abs w) s)

/-- $F2 JAM (R276). -/
def execJamF2 (s : State) : Result := .next (jam s)

/-- $F3 ISC ($nn),Y (R258). -/
def execIscIzy (z : Byte) (s : State) : Result := .next (incrementSubtract (.izy z) s)

/-- $F4 NOP $nn,X (R264). -/
def execNopZpxF4 (z : Byte) (s : State) : Result := .next (readAndDiscard (.mem (.zpx z)) s)

/-- $F7 ISC $nn,X (R258). -/
def execIscZpx (z : Byte) (s : State) : Result := .next (incrementSubtract (.zpx z) s)

/-- $FA NOP (R264). -/
def execNopFA (s : State) : Result := .next (s.idle.retire 1)

/-- $FB ISC $nnnn,Y (R258). -/
def execIscAby (w : Word) (s : State) : Result := .next (incrementSubtract (.aby w) s)

/-- $FC NOP $nnnn,X (R264). -/
def execNopAbxFC (w : Word) (s : State) : Result := .next (readAndDiscard (.mem (.abx w)) s)

/-- $FF ISC $nnnn,X (R258). -/
def execIscAbx (w : Word) (s : State) : Result := .next (incrementSubtract (.abx w) s)

/-! ## Which opcodes a treatment declines -/

/-- Kind 1 of R250: the 27 undocumented NOPs (R264). -/
def unofficialNops : List Byte :=
  [0x04, 0x0C, 0x14, 0x1A, 0x1C, 0x34, 0x3A, 0x3C, 0x44, 0x54, 0x5A, 0x5C, 0x64, 0x74, 0x7A, 0x7C, 0x80, 0x82,
   0x89, 0xC2, 0xD4, 0xDA, 0xDC, 0xE2, 0xF4, 0xFA, 0xFC]

/-- Kind 2 of R250: the 59 stable undocumented opcodes (R251 to R263, R265). -/
def stableCombinations : List Byte :=
  [0x03, 0x07, 0x0B, 0x0F, 0x13, 0x17, 0x1B, 0x1F, 0x23, 0x27, 0x2B, 0x2F, 0x33, 0x37, 0x3B, 0x3F, 0x43, 0x47,
   0x4B, 0x4F, 0x53, 0x57, 0x5B, 0x5F, 0x63, 0x67, 0x6B, 0x6F, 0x73, 0x77, 0x7B, 0x7F, 0x83, 0x87, 0x8F, 0x97,
   0xA3, 0xA7, 0xAF, 0xB3, 0xB7, 0xBB, 0xBF, 0xC3, 0xC7, 0xCB, 0xCF, 0xD3, 0xD7, 0xDB, 0xDF, 0xE3, 0xE7, 0xEB,
   0xEF, 0xF3, 0xF7, 0xFB, 0xFF]

/-- Kind 3 of R250: the seven unstable opcodes (R266 to R271). -/
def unstableOpcodes : List Byte :=
  [0x8B, 0x93, 0x9B, 0x9C, 0x9E, 0x9F, 0xAB]

/-- Kind 4 of R250: the twelve JAM opcodes (R276). -/
def jamOpcodes : List Byte :=
  [0x02, 0x12, 0x22, 0x32, 0x42, 0x52, 0x62, 0x72, 0x92, 0xB2, 0xD2, 0xF2]

/-- The kind of an opcode byte (R119, R250). -/
def opcodeKind (op : Byte) : OpcodeKind :=
  if op ∈ unstableOpcodes then .unstable
  else if op ∈ jamOpcodes then .jam
  else if op ∈ unofficialNops then .nop
  else if op ∈ stableCombinations then .stable
  else .documented

/-- Whether the opcodes of a kind run: the table of R250, where `runUnstable` is false (log 2). -/
def admitsKind (t : Treatment) : OpcodeKind → Bool
  | .documented => true
  | .nop | .stable | .jam => t.admitUnofficial
  | .unstable => t.admitUnofficial && t.runUnstable

/-- Whether a treatment refuses an opcode that was fetched (R250, D1). -/
def declinesOpcode (t : Treatment) (op : Byte) : Bool :=
  !admitsKind t (opcodeKind op)

end Sys2Proof.Machine
end

