-- ==== Sys2Proof/Machine/Step.lean ====
section
/-! DEFINITION. One step at an instruction boundary (60_exceptions.md R320), and placing an instruction where the next
step fetches. -/

namespace Sys2Proof.Machine

/-- What an instruction step runs under a treatment of the undocumented opcodes: the fetched instruction, from the state
after its fetch (R320), unless the treatment declines its opcode (R250, D1). -/
def State.runInstructionUnder (t : Treatment) (s : State) : Result :=
  if declinesOpcode t (s.busRead s.pc) then .refused (.declined (s.busRead s.pc)) else exec s.fetch.1 s.fetch.2

/-- What an instruction step runs under the model's treatment: every opcode but the seven unstable ones, which it refuses
(R250; log 1, log 2). -/
def State.runInstruction (s : State) : Result := s.runInstructionUnder Config.treatment

/-- The step once the pins stand as the environment left them, in the order of R320 and R308: held by /RST (R44), reset,
stuck, NMI, IRQ, else one instruction. A fall of /NMI inside the step is latched before the entry or the instruction, so
that its vector read can see it (R314; log 11). A jammed or held machine stays as it is (R276, R44; log 3, log 13). -/
def State.boundary (s : State) : Result :=
  if !s.rstLine then .next s.latchNmi
  else if s.resetPending then .next s.resetSequence
  else if s.jammed then .next s.latchNmi
  else if s.nmiPending then .next (s.latchNmi.interrupt nmiVector)
  else if !s.irqLine && !s.iPoll then .next (s.latchNmi.interrupt irqVector)
  else s.latchNmi.runInstruction

/-- The step once the pins stand, and /RST may fall in the middle of it: "asserting /RST stops the CPU wherever it is,
possibly mid-instruction" (R305, R351; log 12). An opcode that would be refused is not fetched where /RST falls before
the first cycle. -/
def State.boundaryOrCut (s : State) : Result :=
  match s.rstMid with
  | none => s.boundary
  | some k =>
    match { s with rstMid := none }.boundary with
    | .next t => .next ({ s with rstMid := none }.cutAfter k t)
    | .fault f => .fault f
    | .refused r => if k = 0 then .next { s.latchNmi with rstLine := false, rstMid := none } else .refused r

/-- One step of the model: the environment's pin events for it, then the boundary (R320, D24). -/
def step (s : State) : Host.Outcome State Fault Refusal := s.environment.boundaryOrCut

/-- The state with byte `b` where a read of `a` finds it: its RAM or ROM cell, else the environment's next answers. -/
def State.placeByte (s : State) (a : Word) (b : Byte) : State :=
  match s.target a with
  | .ram c => { s with mem := memStore none s.mem c b }
  | .rom c => { s with cart := { s.cart with rom := memStore (some 0) s.cart.rom c b } }
  | _ => { s with inputs := b :: s.inputs }

/-- The state with the instruction whose bits are `w` at `pc` and no event due, so that the very next step fetches and
runs it. It stands for the loading of a program from outside the machine (log 9, log 26). -/
def State.withFetchWord (s : State) (nbits w : Nat) : State :=
  let s1 := { s with
    rstLine := true
    rstMid := none
    resetPending := false
    jammed := false
    nmiPending := false
    irqLine := s.irqLine || !s.iPoll
    schedule := match s.schedule with
      | [] => []
      | _ :: later => [] :: later }
  ((s1.placeByte (s.pc + 2) (tableByte nbits w 2)).placeByte (s.pc + 1) (tableByte nbits w 1)).placeByte s.pc
    (tableByte nbits w 0)

end Sys2Proof.Machine
end

