-- ==== Sys2Proof/Machine/Forms.lean ====
section
/-! DEFINITION. The forms of each mnemonic with an operand, from the Encoding line of its rule: the opcode byte and the
instruction for each operand the mnemonic takes; an operand it does not take has no form. The statements quantify over
these lists, so that none of them shuts out a form. -/

namespace Sys2Proof.Machine

/-- The bytes after the opcode for an operand in memory: one byte, or the word with its low byte first (R101, R102). -/
def Mode.bytes : Mode → List Byte
  | .zp z | .zpx z | .zpy z | .izx z | .izy z => [z]
  | .abs w | .abx w | .aby w => [loByte w, hiByte w]

/-- The bytes after the opcode for a source operand (R101, R102, R106). -/
def Operand.bytes : Operand → List Byte
  | .imm n => [n]
  | .mem m => m.bytes

/-- An opcode byte and the instruction it is the first byte of. -/
abbrev Form := Byte × Instr

/-- LDA (R140). -/
def ldaForms : Operand → List Form
  | .imm n => [(0xA9, .ldaImm n)]
  | .mem (.zp z) => [(0xA5, .ldaZp z)]
  | .mem (.zpx z) => [(0xB5, .ldaZpx z)]
  | .mem (.abs w) => [(0xAD, .ldaAbs w)]
  | .mem (.abx w) => [(0xBD, .ldaAbx w)]
  | .mem (.aby w) => [(0xB9, .ldaAby w)]
  | .mem (.izx z) => [(0xA1, .ldaIzx z)]
  | .mem (.izy z) => [(0xB1, .ldaIzy z)]
  | .mem _ => []

/-- LDX (R141). -/
def ldxForms : Operand → List Form
  | .imm n => [(0xA2, .ldxImm n)]
  | .mem (.zp z) => [(0xA6, .ldxZp z)]
  | .mem (.zpy z) => [(0xB6, .ldxZpy z)]
  | .mem (.abs w) => [(0xAE, .ldxAbs w)]
  | .mem (.aby w) => [(0xBE, .ldxAby w)]
  | .mem _ => []

/-- LDY (R142). -/
def ldyForms : Operand → List Form
  | .imm n => [(0xA0, .ldyImm n)]
  | .mem (.zp z) => [(0xA4, .ldyZp z)]
  | .mem (.zpx z) => [(0xB4, .ldyZpx z)]
  | .mem (.abs w) => [(0xAC, .ldyAbs w)]
  | .mem (.abx w) => [(0xBC, .ldyAbx w)]
  | .mem _ => []

/-- ADC (R170). -/
def adcForms : Operand → List Form
  | .imm n => [(0x69, .adcImm n)]
  | .mem (.zp z) => [(0x65, .adcZp z)]
  | .mem (.zpx z) => [(0x75, .adcZpx z)]
  | .mem (.abs w) => [(0x6D, .adcAbs w)]
  | .mem (.abx w) => [(0x7D, .adcAbx w)]
  | .mem (.aby w) => [(0x79, .adcAby w)]
  | .mem (.izx z) => [(0x61, .adcIzx z)]
  | .mem (.izy z) => [(0x71, .adcIzy z)]
  | .mem _ => []

/-- SBC (R171, R263). -/
def sbcForms : Operand → List Form
  | .imm n => [(0xE9, .sbcImm n), (0xEB, .sbcImmEB n)]
  | .mem (.zp z) => [(0xE5, .sbcZp z)]
  | .mem (.zpx z) => [(0xF5, .sbcZpx z)]
  | .mem (.abs w) => [(0xED, .sbcAbs w)]
  | .mem (.abx w) => [(0xFD, .sbcAbx w)]
  | .mem (.aby w) => [(0xF9, .sbcAby w)]
  | .mem (.izx z) => [(0xE1, .sbcIzx z)]
  | .mem (.izy z) => [(0xF1, .sbcIzy z)]
  | .mem _ => []

/-- CMP (R172). -/
def cmpForms : Operand → List Form
  | .imm n => [(0xC9, .cmpImm n)]
  | .mem (.zp z) => [(0xC5, .cmpZp z)]
  | .mem (.zpx z) => [(0xD5, .cmpZpx z)]
  | .mem (.abs w) => [(0xCD, .cmpAbs w)]
  | .mem (.abx w) => [(0xDD, .cmpAbx w)]
  | .mem (.aby w) => [(0xD9, .cmpAby w)]
  | .mem (.izx z) => [(0xC1, .cmpIzx z)]
  | .mem (.izy z) => [(0xD1, .cmpIzy z)]
  | .mem _ => []

/-- CPX (R173). -/
def cpxForms : Operand → List Form
  | .imm n => [(0xE0, .cpxImm n)]
  | .mem (.zp z) => [(0xE4, .cpxZp z)]
  | .mem (.abs w) => [(0xEC, .cpxAbs w)]
  | .mem _ => []

/-- CPY (R174). -/
def cpyForms : Operand → List Form
  | .imm n => [(0xC0, .cpyImm n)]
  | .mem (.zp z) => [(0xC4, .cpyZp z)]
  | .mem (.abs w) => [(0xCC, .cpyAbs w)]
  | .mem _ => []

/-- AND (R190). -/
def andForms : Operand → List Form
  | .imm n => [(0x29, .andImm n)]
  | .mem (.zp z) => [(0x25, .andZp z)]
  | .mem (.zpx z) => [(0x35, .andZpx z)]
  | .mem (.abs w) => [(0x2D, .andAbs w)]
  | .mem (.abx w) => [(0x3D, .andAbx w)]
  | .mem (.aby w) => [(0x39, .andAby w)]
  | .mem (.izx z) => [(0x21, .andIzx z)]
  | .mem (.izy z) => [(0x31, .andIzy z)]
  | .mem _ => []

/-- ORA (R191). -/
def oraForms : Operand → List Form
  | .imm n => [(0x09, .oraImm n)]
  | .mem (.zp z) => [(0x05, .oraZp z)]
  | .mem (.zpx z) => [(0x15, .oraZpx z)]
  | .mem (.abs w) => [(0x0D, .oraAbs w)]
  | .mem (.abx w) => [(0x1D, .oraAbx w)]
  | .mem (.aby w) => [(0x19, .oraAby w)]
  | .mem (.izx z) => [(0x01, .oraIzx z)]
  | .mem (.izy z) => [(0x11, .oraIzy z)]
  | .mem _ => []

/-- EOR (R192). -/
def eorForms : Operand → List Form
  | .imm n => [(0x49, .eorImm n)]
  | .mem (.zp z) => [(0x45, .eorZp z)]
  | .mem (.zpx z) => [(0x55, .eorZpx z)]
  | .mem (.abs w) => [(0x4D, .eorAbs w)]
  | .mem (.abx w) => [(0x5D, .eorAbx w)]
  | .mem (.aby w) => [(0x59, .eorAby w)]
  | .mem (.izx z) => [(0x41, .eorIzx z)]
  | .mem (.izy z) => [(0x51, .eorIzy z)]
  | .mem _ => []

/-- BIT (R193). -/
def bitForms : Operand → List Form
  | .imm _ => []
  | .mem (.zp z) => [(0x24, .bitZp z)]
  | .mem (.abs w) => [(0x2C, .bitAbs w)]
  | .mem _ => []

/-- LAX (R256). -/
def laxForms : Operand → List Form
  | .imm _ => []
  | .mem (.zp z) => [(0xA7, .laxZp z)]
  | .mem (.zpy z) => [(0xB7, .laxZpy z)]
  | .mem (.abs w) => [(0xAF, .laxAbs w)]
  | .mem (.aby w) => [(0xBF, .laxAby w)]
  | .mem (.izx z) => [(0xA3, .laxIzx z)]
  | .mem (.izy z) => [(0xB3, .laxIzy z)]
  | .mem _ => []

/-- LAS (R265). -/
def lasForms : Operand → List Form
  | .imm _ => []
  | .mem (.aby w) => [(0xBB, .lasAby w)]
  | .mem _ => []

/-- NOP (R264). The undocumented NOPs that read an operand. -/
def nopReadForms : Operand → List Form
  | .imm n => [(0x80, .nopImm80 n), (0x82, .nopImm82 n), (0x89, .nopImm89 n), (0xC2, .nopImmC2 n), (0xE2, .nopImmE2 n)]
  | .mem (.zp z) => [(0x04, .nopZp04 z), (0x44, .nopZp44 z), (0x64, .nopZp64 z)]
  | .mem (.zpx z) => [(0x14, .nopZpx14 z), (0x34, .nopZpx34 z), (0x54, .nopZpx54 z), (0x74, .nopZpx74 z), (0xD4, .nopZpxD4 z), (0xF4, .nopZpxF4 z)]
  | .mem (.abs w) => [(0x0C, .nopAbs w)]
  | .mem (.abx w) => [(0x1C, .nopAbx1C w), (0x3C, .nopAbx3C w), (0x5C, .nopAbx5C w), (0x7C, .nopAbx7C w), (0xDC, .nopAbxDC w), (0xFC, .nopAbxFC w)]
  | .mem _ => []

/-- STA (R143). -/
def staForms : Mode → List Form
  | .zp z => [(0x85, .staZp z)]
  | .zpx z => [(0x95, .staZpx z)]
  | .abs w => [(0x8D, .staAbs w)]
  | .abx w => [(0x9D, .staAbx w)]
  | .aby w => [(0x99, .staAby w)]
  | .izx z => [(0x81, .staIzx z)]
  | .izy z => [(0x91, .staIzy z)]
  | _ => []

/-- STX (R144). -/
def stxForms : Mode → List Form
  | .zp z => [(0x86, .stxZp z)]
  | .zpy z => [(0x96, .stxZpy z)]
  | .abs w => [(0x8E, .stxAbs w)]
  | _ => []

/-- STY (R145). -/
def styForms : Mode → List Form
  | .zp z => [(0x84, .styZp z)]
  | .zpx z => [(0x94, .styZpx z)]
  | .abs w => [(0x8C, .styAbs w)]
  | _ => []

/-- SAX (R255). -/
def saxForms : Mode → List Form
  | .zp z => [(0x87, .saxZp z)]
  | .zpy z => [(0x97, .saxZpy z)]
  | .abs w => [(0x8F, .saxAbs w)]
  | .izx z => [(0x83, .saxIzx z)]
  | _ => []

/-- INC (R175). -/
def incForms : Mode → List Form
  | .zp z => [(0xE6, .incZp z)]
  | .zpx z => [(0xF6, .incZpx z)]
  | .abs w => [(0xEE, .incAbs w)]
  | .abx w => [(0xFE, .incAbx w)]
  | _ => []

/-- DEC (R176). -/
def decForms : Mode → List Form
  | .zp z => [(0xC6, .decZp z)]
  | .zpx z => [(0xD6, .decZpx z)]
  | .abs w => [(0xCE, .decAbs w)]
  | .abx w => [(0xDE, .decAbx w)]
  | _ => []

/-- ASL on memory (R194). -/
def aslForms : Mode → List Form
  | .zp z => [(0x06, .aslZp z)]
  | .zpx z => [(0x16, .aslZpx z)]
  | .abs w => [(0x0E, .aslAbs w)]
  | .abx w => [(0x1E, .aslAbx w)]
  | _ => []

/-- LSR on memory (R195). -/
def lsrForms : Mode → List Form
  | .zp z => [(0x46, .lsrZp z)]
  | .zpx z => [(0x56, .lsrZpx z)]
  | .abs w => [(0x4E, .lsrAbs w)]
  | .abx w => [(0x5E, .lsrAbx w)]
  | _ => []

/-- ROL on memory (R196). -/
def rolForms : Mode → List Form
  | .zp z => [(0x26, .rolZp z)]
  | .zpx z => [(0x36, .rolZpx z)]
  | .abs w => [(0x2E, .rolAbs w)]
  | .abx w => [(0x3E, .rolAbx w)]
  | _ => []

/-- ROR on memory (R197). -/
def rorForms : Mode → List Form
  | .zp z => [(0x66, .rorZp z)]
  | .zpx z => [(0x76, .rorZpx z)]
  | .abs w => [(0x6E, .rorAbs w)]
  | .abx w => [(0x7E, .rorAbx w)]
  | _ => []

/-- SLO (R251). -/
def sloForms : Mode → List Form
  | .zp z => [(0x07, .sloZp z)]
  | .zpx z => [(0x17, .sloZpx z)]
  | .abs w => [(0x0F, .sloAbs w)]
  | .abx w => [(0x1F, .sloAbx w)]
  | .aby w => [(0x1B, .sloAby w)]
  | .izx z => [(0x03, .sloIzx z)]
  | .izy z => [(0x13, .sloIzy z)]
  | _ => []

/-- RLA (R252). -/
def rlaForms : Mode → List Form
  | .zp z => [(0x27, .rlaZp z)]
  | .zpx z => [(0x37, .rlaZpx z)]
  | .abs w => [(0x2F, .rlaAbs w)]
  | .abx w => [(0x3F, .rlaAbx w)]
  | .aby w => [(0x3B, .rlaAby w)]
  | .izx z => [(0x23, .rlaIzx z)]
  | .izy z => [(0x33, .rlaIzy z)]
  | _ => []

/-- SRE (R253). -/
def sreForms : Mode → List Form
  | .zp z => [(0x47, .sreZp z)]
  | .zpx z => [(0x57, .sreZpx z)]
  | .abs w => [(0x4F, .sreAbs w)]
  | .abx w => [(0x5F, .sreAbx w)]
  | .aby w => [(0x5B, .sreAby w)]
  | .izx z => [(0x43, .sreIzx z)]
  | .izy z => [(0x53, .sreIzy z)]
  | _ => []

/-- RRA (R254). -/
def rraForms : Mode → List Form
  | .zp z => [(0x67, .rraZp z)]
  | .zpx z => [(0x77, .rraZpx z)]
  | .abs w => [(0x6F, .rraAbs w)]
  | .abx w => [(0x7F, .rraAbx w)]
  | .aby w => [(0x7B, .rraAby w)]
  | .izx z => [(0x63, .rraIzx z)]
  | .izy z => [(0x73, .rraIzy z)]
  | _ => []

/-- DCP (R257). -/
def dcpForms : Mode → List Form
  | .zp z => [(0xC7, .dcpZp z)]
  | .zpx z => [(0xD7, .dcpZpx z)]
  | .abs w => [(0xCF, .dcpAbs w)]
  | .abx w => [(0xDF, .dcpAbx w)]
  | .aby w => [(0xDB, .dcpAby w)]
  | .izx z => [(0xC3, .dcpIzx z)]
  | .izy z => [(0xD3, .dcpIzy z)]
  | _ => []

/-- ISC (R258). -/
def iscForms : Mode → List Form
  | .zp z => [(0xE7, .iscZp z)]
  | .zpx z => [(0xF7, .iscZpx z)]
  | .abs w => [(0xEF, .iscAbs w)]
  | .abx w => [(0xFF, .iscAbx w)]
  | .aby w => [(0xFB, .iscAby w)]
  | .izx z => [(0xE3, .iscIzx z)]
  | .izy z => [(0xF3, .iscIzy z)]
  | _ => []

/-- SHA (R268). -/
def shaForms : Mode → List Form
  | .aby w => [(0x9F, .shaAby w)]
  | .izy z => [(0x93, .shaIzy z)]
  | _ => []

/-- SHX (R269). -/
def shxForms : Mode → List Form
  | .aby w => [(0x9E, .shxAby w)]
  | _ => []

/-- SHY (R270). -/
def shyForms : Mode → List Form
  | .abx w => [(0x9C, .shyAbx w)]
  | _ => []

/-- TAS (R271). -/
def tasForms : Mode → List Form
  | .aby w => [(0x9B, .tasAby w)]
  | _ => []

/-- A branch: its opcode, its instruction, the value of the flag it reads that takes it. -/
structure BranchForm where
  opcode : Byte
  branch : Byte → Instr
  taken : Flags → Bool

/-- The eight branches (R211 to R218). -/
def branchForms : List BranchForm :=
  [⟨0x10, .bplRel, fun p => !p.n⟩,
   ⟨0x30, .bmiRel, fun p => p.n⟩,
   ⟨0x50, .bvcRel, fun p => !p.v⟩,
   ⟨0x70, .bvsRel, fun p => p.v⟩,
   ⟨0x90, .bccRel, fun p => !p.c⟩,
   ⟨0xB0, .bcsRel, fun p => p.c⟩,
   ⟨0xD0, .bneRel, fun p => !p.z⟩,
   ⟨0xF0, .beqRel, fun p => p.z⟩]

/-- The one-byte NOPs: the documented one and the six undocumented (R237, R264). -/
def nopForms : List Form :=
  [(0x1A, .nop1A), (0x3A, .nop3A), (0x5A, .nop5A), (0x7A, .nop7A), (0xDA, .nopDA), (0xEA, .nop), (0xFA, .nopFA)]

/-- The twelve JAM opcodes (R276). -/
def jamForms : List Form :=
  [(0x02, .jam02), (0x12, .jam12), (0x22, .jam22), (0x32, .jam32), (0x42, .jam42), (0x52, .jam52),
   (0x62, .jam62), (0x72, .jam72), (0x92, .jam92), (0xB2, .jamB2), (0xD2, .jamD2), (0xF2, .jamF2)]

end Sys2Proof.Machine
end

