-- ==== Sys2Proof/Machine/Timing.lean ====
section
/-! DEFINITION. The cycle counts of R371 and of the `cycles` column of spec/opcode_table.json, one bus access a cycle
(R74). No step reads them: a statement says that the recorded history grows by them. -/

namespace Sys2Proof.Machine

/-- `p` of R371 for an indexed read: 1 if indexing crosses a page. -/
def State.crossing (s : State) (m : Mode) : Nat := if s.pageCross m then 1 else 0

/-- `2 + t + p` of R371 for a branch at `pc`. -/
def branchCycles (taken : Bool) (r : Byte) (pc : Word) : Nat :=
  if !taken then 2 else if hiByte (branchTarget pc r) = hiByte (pc + 2) then 3 else 4

/-- Cycles of instruction `i` at the state its opcode is fetched in (R371). JAM never completes: 2 is what it does
before it stops (R372). -/
def cycles (i : Instr) (s : State) : Nat :=
  match i with
  | .oraIzx _ => 6
  | .sloIzx _ => 8
  | .nopZp04 _ => 3
  | .oraZp _ => 3
  | .aslZp _ => 5
  | .sloZp _ => 5
  | .oraImm _ => 2
  | .ancImm0B _ => 2
  | .nopAbs _ => 4
  | .oraAbs _ => 4
  | .aslAbs _ => 6
  | .sloAbs _ => 6
  | .bplRel r => branchCycles (!s.p.n) r s.pc
  | .oraIzy z => 5 + s.crossing (.izy z)
  | .sloIzy _ => 8
  | .nopZpx14 _ => 4
  | .oraZpx _ => 4
  | .aslZpx _ => 6
  | .sloZpx _ => 6
  | .oraAby w => 4 + s.crossing (.aby w)
  | .sloAby _ => 7
  | .nopAbx1C w => 4 + s.crossing (.abx w)
  | .oraAbx w => 4 + s.crossing (.abx w)
  | .aslAbx _ => 7
  | .sloAbx _ => 7
  | .jsrAbs _ => 6
  | .andIzx _ => 6
  | .rlaIzx _ => 8
  | .bitZp _ => 3
  | .andZp _ => 3
  | .rolZp _ => 5
  | .rlaZp _ => 5
  | .andImm _ => 2
  | .ancImm2B _ => 2
  | .bitAbs _ => 4
  | .andAbs _ => 4
  | .rolAbs _ => 6
  | .rlaAbs _ => 6
  | .bmiRel r => branchCycles s.p.n r s.pc
  | .andIzy z => 5 + s.crossing (.izy z)
  | .rlaIzy _ => 8
  | .nopZpx34 _ => 4
  | .andZpx _ => 4
  | .rolZpx _ => 6
  | .rlaZpx _ => 6
  | .andAby w => 4 + s.crossing (.aby w)
  | .rlaAby _ => 7
  | .nopAbx3C w => 4 + s.crossing (.abx w)
  | .andAbx w => 4 + s.crossing (.abx w)
  | .rolAbx _ => 7
  | .rlaAbx _ => 7
  | .eorIzx _ => 6
  | .sreIzx _ => 8
  | .nopZp44 _ => 3
  | .eorZp _ => 3
  | .lsrZp _ => 5
  | .sreZp _ => 5
  | .eorImm _ => 2
  | .alrImm _ => 2
  | .jmpAbs _ => 3
  | .eorAbs _ => 4
  | .lsrAbs _ => 6
  | .sreAbs _ => 6
  | .bvcRel r => branchCycles (!s.p.v) r s.pc
  | .eorIzy z => 5 + s.crossing (.izy z)
  | .sreIzy _ => 8
  | .nopZpx54 _ => 4
  | .eorZpx _ => 4
  | .lsrZpx _ => 6
  | .sreZpx _ => 6
  | .eorAby w => 4 + s.crossing (.aby w)
  | .sreAby _ => 7
  | .nopAbx5C w => 4 + s.crossing (.abx w)
  | .eorAbx w => 4 + s.crossing (.abx w)
  | .lsrAbx _ => 7
  | .sreAbx _ => 7
  | .adcIzx _ => 6
  | .rraIzx _ => 8
  | .nopZp64 _ => 3
  | .adcZp _ => 3
  | .rorZp _ => 5
  | .rraZp _ => 5
  | .adcImm _ => 2
  | .arrImm _ => 2
  | .jmpInd _ => 5
  | .adcAbs _ => 4
  | .rorAbs _ => 6
  | .rraAbs _ => 6
  | .bvsRel r => branchCycles s.p.v r s.pc
  | .adcIzy z => 5 + s.crossing (.izy z)
  | .rraIzy _ => 8
  | .nopZpx74 _ => 4
  | .adcZpx _ => 4
  | .rorZpx _ => 6
  | .rraZpx _ => 6
  | .adcAby w => 4 + s.crossing (.aby w)
  | .rraAby _ => 7
  | .nopAbx7C w => 4 + s.crossing (.abx w)
  | .adcAbx w => 4 + s.crossing (.abx w)
  | .rorAbx _ => 7
  | .rraAbx _ => 7
  | .nopImm80 _ => 2
  | .staIzx _ => 6
  | .nopImm82 _ => 2
  | .saxIzx _ => 6
  | .styZp _ => 3
  | .staZp _ => 3
  | .stxZp _ => 3
  | .saxZp _ => 3
  | .nopImm89 _ => 2
  | .aneImm _ => 2
  | .styAbs _ => 4
  | .staAbs _ => 4
  | .stxAbs _ => 4
  | .saxAbs _ => 4
  | .bccRel r => branchCycles (!s.p.c) r s.pc
  | .staIzy _ => 6
  | .shaIzy _ => 6
  | .styZpx _ => 4
  | .staZpx _ => 4
  | .stxZpy _ => 4
  | .saxZpy _ => 4
  | .staAby _ => 5
  | .tasAby _ => 5
  | .shyAbx _ => 5
  | .staAbx _ => 5
  | .shxAby _ => 5
  | .shaAby _ => 5
  | .ldyImm _ => 2
  | .ldaIzx _ => 6
  | .ldxImm _ => 2
  | .laxIzx _ => 6
  | .ldyZp _ => 3
  | .ldaZp _ => 3
  | .ldxZp _ => 3
  | .laxZp _ => 3
  | .ldaImm _ => 2
  | .lxaImm _ => 2
  | .ldyAbs _ => 4
  | .ldaAbs _ => 4
  | .ldxAbs _ => 4
  | .laxAbs _ => 4
  | .bcsRel r => branchCycles s.p.c r s.pc
  | .ldaIzy z => 5 + s.crossing (.izy z)
  | .laxIzy z => 5 + s.crossing (.izy z)
  | .ldyZpx _ => 4
  | .ldaZpx _ => 4
  | .ldxZpy _ => 4
  | .laxZpy _ => 4
  | .ldaAby w => 4 + s.crossing (.aby w)
  | .lasAby w => 4 + s.crossing (.aby w)
  | .ldyAbx w => 4 + s.crossing (.abx w)
  | .ldaAbx w => 4 + s.crossing (.abx w)
  | .ldxAby w => 4 + s.crossing (.aby w)
  | .laxAby w => 4 + s.crossing (.aby w)
  | .cpyImm _ => 2
  | .cmpIzx _ => 6
  | .nopImmC2 _ => 2
  | .dcpIzx _ => 8
  | .cpyZp _ => 3
  | .cmpZp _ => 3
  | .decZp _ => 5
  | .dcpZp _ => 5
  | .cmpImm _ => 2
  | .axsImm _ => 2
  | .cpyAbs _ => 4
  | .cmpAbs _ => 4
  | .decAbs _ => 6
  | .dcpAbs _ => 6
  | .bneRel r => branchCycles (!s.p.z) r s.pc
  | .cmpIzy z => 5 + s.crossing (.izy z)
  | .dcpIzy _ => 8
  | .nopZpxD4 _ => 4
  | .cmpZpx _ => 4
  | .decZpx _ => 6
  | .dcpZpx _ => 6
  | .cmpAby w => 4 + s.crossing (.aby w)
  | .dcpAby _ => 7
  | .nopAbxDC w => 4 + s.crossing (.abx w)
  | .cmpAbx w => 4 + s.crossing (.abx w)
  | .decAbx _ => 7
  | .dcpAbx _ => 7
  | .cpxImm _ => 2
  | .sbcIzx _ => 6
  | .nopImmE2 _ => 2
  | .iscIzx _ => 8
  | .cpxZp _ => 3
  | .sbcZp _ => 3
  | .incZp _ => 5
  | .iscZp _ => 5
  | .sbcImm _ => 2
  | .sbcImmEB _ => 2
  | .cpxAbs _ => 4
  | .sbcAbs _ => 4
  | .incAbs _ => 6
  | .iscAbs _ => 6
  | .beqRel r => branchCycles s.p.z r s.pc
  | .sbcIzy z => 5 + s.crossing (.izy z)
  | .iscIzy _ => 8
  | .nopZpxF4 _ => 4
  | .sbcZpx _ => 4
  | .incZpx _ => 6
  | .iscZpx _ => 6
  | .sbcAby w => 4 + s.crossing (.aby w)
  | .iscAby _ => 7
  | .nopAbxFC w => 4 + s.crossing (.abx w)
  | .sbcAbx w => 4 + s.crossing (.abx w)
  | .incAbx _ => 7
  | .iscAbx _ => 7
  | .brk => 7
  | .jam02 => 2
  | .php => 3
  | .aslAcc => 2
  | .jam12 => 2
  | .clc => 2
  | .nop1A => 2
  | .jam22 => 2
  | .plp => 4
  | .rolAcc => 2
  | .jam32 => 2
  | .sec => 2
  | .nop3A => 2
  | .rti => 6
  | .jam42 => 2
  | .pha => 3
  | .lsrAcc => 2
  | .jam52 => 2
  | .cli => 2
  | .nop5A => 2
  | .rts => 6
  | .jam62 => 2
  | .pla => 4
  | .rorAcc => 2
  | .jam72 => 2
  | .sei => 2
  | .nop7A => 2
  | .dey => 2
  | .txa => 2
  | .jam92 => 2
  | .tya => 2
  | .txs => 2
  | .tay => 2
  | .tax => 2
  | .jamB2 => 2
  | .clv => 2
  | .tsx => 2
  | .iny => 2
  | .dex => 2
  | .jamD2 => 2
  | .cld => 2
  | .nopDA => 2
  | .inx => 2
  | .nop => 2
  | .jamF2 => 2
  | .sed => 2
  | .nopFA => 2

end Sys2Proof.Machine
end

