-- ==== Sys2Proof/Safety.lean ====
section
/-! DEFINITION. What counts as a safe state and a finished or stuck run, the views of the bus history that the outside
has, and the relations between two states that the statements use to say what is unchanged. -/

namespace Sys2Proof.Machine

/-! ## The invariant -/

/-- A cell that RAM answers for: internal RAM (R62) or a cartridge RAM address (R69). -/
def State.isRamCell (s : State) (cell : Nat) : Bool :=
  cell < 0x800 || (0x4020 ≤ cell && cell < 0x10000 && s.cart.kindAt cell == .ram)

/-- The memory is canonical and lists RAM cells only, and the ROM's list is canonical (log 6, log 7). -/
structure State.Inv (s : State) : Prop where
  memCanonical : Memory.Wf none s.mem
  memInRam : ∀ e ∈ s.mem, s.isRamCell e.1 = true
  romCanonical : Memory.Wf (some 0) s.cart.rom

/-! ## Stuck, held, completed -/

/-- Stuck: jammed, and no reset due, under way or coming with the next step; "the CPU is stuck until reset" (R276, R320). -/
def State.Stuck (s : State) : Prop :=
  s.environment.jammed = true ∧ s.environment.resetPending = false ∧ s.environment.rstLine = true ∧
    s.environment.rstMid = none

/-- An interrupt, a reset or a hold is what the coming step does instead of an instruction, or a reset cuts it (R320,
R351). -/
def State.busy (s : State) : Bool :=
  !s.rstLine || s.rstMid.isSome || s.resetPending || s.jammed || s.nmiPending || (!s.irqLine && !s.iPoll)

/-- The coming instruction is a jump or a taken branch to itself: "`4C lo hi` at `{hi, lo}`, or a taken branch with offset
$FE" (R380). -/
def State.jumpsToItself (s : State) : Bool :=
  s.fetch.1 = .jmpAbs s.pc || branchForms.any fun f => s.fetch.1 = f.branch 0xFE && f.taken s.p

/-- What END_OF_RUN's `self_jump` convention waits for (R380, D15): the coming instruction jumps to itself "with interrupts unable to
arrive": none is due, the environment schedules nothing more, and a low /IRQ meets I = 1, so that the gate, which takes
I over when the instruction ends, stays shut. -/
def State.SelfJump (s : State) : Prop :=
  s.schedule = [] ∧ s.busy = false ∧ s.nmiMid = false ∧ (s.irqLine = true ∨ s.p.i = true) ∧ s.jumpsToItself = true

/-- Parameter `END_OF_RUN` (R380, D15). -/
inductive EndOfRun where
  /-- `self_jump` -/
  | selfJump
  /-- `steps(n)` -/
  | steps (n : Nat)
  /-- `write(addr)` -/
  | write (a : Word)
deriving DecidableEq, Repr

/-- The outcomes of a run: "completed (by the chosen convention), stuck (JAM), refused ..., or still running" (R380). -/
inductive RunOutcome where
  | completed | stuck | refused | running
deriving DecidableEq, Repr

/-- Whether a run from `s` is at the end that the convention chooses when `n` steps have led it to `t` (R380): an
instruction has jumped to itself, the steps are made and the CPU is not jammed ("a jammed CPU is not a completed run",
R276), or the address was stored to. -/
def EndOfRun.Reached (n : Nat) (s t : State) : EndOfRun → Prop
  | .selfJump => ∃ k u, n = k + 1 ∧ core.run k s = .next u ∧ u.SelfJump
  | .steps k => k ≤ n ∧ t.jammed = false
  | .write a => ∃ v, .write a v ∈ s.cyclesTo t

/-- A run from `s` has come to the end that the convention chooses within `n` steps (R380). -/
def State.Completes (e : EndOfRun) (n : Nat) (s : State) : Prop :=
  ∃ m t, m ≤ n ∧ core.run m s = .next t ∧ e.Reached m s t

/-- What `n` steps from `s` have come to under a convention (R380). Exactly one outcome holds (`runEnds_exists`,
`runEnds_unique`). -/
def State.RunEnds (e : EndOfRun) (n : Nat) (s : State) : RunOutcome → Prop
  | .completed => s.Completes e n
  | .stuck => ¬ s.Completes e n ∧ ∃ t, core.run n s = .next t ∧ t.Stuck
  | .refused => ¬ s.Completes e n ∧ ∃ r, core.run n s = .refused r
  | .running => ¬ s.Completes e n ∧ ∃ t, core.run n s = .next t ∧ ¬ t.Stuck

/-! ## What the outside sees -/

/-- Whether a cycle is a read of $4015, "the only readable register that is internal to the CPU" (R80). -/
def BusCycle.internal : BusCycle → Bool
  | .read a => a.toNat = 0x4015
  | .write _ _ => false

/-- What the cartridge can observe, oldest first: every cycle but reads of $4015 (R80). -/
def State.cartridgeView (s : State) : List BusCycle := (s.bus.filter (fun c => !c.internal)).reverse

/-- Whether a cycle is an event of R70, R71 and D23: a device read, or a write that no RAM cell takes. -/
def State.isEvent (s : State) (c : BusCycle) : Bool :=
  match c with
  | .read a => match s.target a with
    | .ppu _ | .io _ | .cartDevice => true
    | _ => false
  | .write a _ => match s.target a with
    | .ram _ => false
    | _ => true

/-- The device events of the history, oldest first (R70, R71). -/
def State.events (s : State) : List BusCycle := (s.bus.filter s.isEvent).reverse

/-- A read that enables controller port 1: /OE1 (R47, R87). -/
def BusCycle.enablesPort1 : BusCycle → Bool
  | .read a => a.toNat = 0x4016
  | .write _ _ => false

/-- A read that enables controller port 2: /OE2 (R47, R87). -/
def BusCycle.enablesPort2 : BusCycle → Bool
  | .read a => a.toNat = 0x4017
  | .write _ _ => false

/-! ## What a statement says is unchanged, and what an access leaves -/

/-- Whether RAM answers at the address (R61, R69). -/
def State.ramAt (s : State) (a : Word) : Bool :=
  match s.target a with
  | .ram _ => true
  | _ => false

/-- Every byte of memory reads as before. -/
def SameMemory (s t : State) : Prop := ∀ a, t.byteAt a = s.byteAt a

/-- Every byte of memory reads as before but those in `ws` and their mirrors (R62). -/
def SameMemoryBut (ws : List Word) (s t : State) : Prop :=
  ∀ a, (∀ w ∈ ws, s.target a ≠ s.target w) → t.byteAt a = s.byteAt a

/-- The byte `v` was stored at `w`: RAM holds it, anything else keeps what it held (R71, D23), and no other byte of
memory has changed. -/
structure StoredByte (w : Word) (v : Byte) (s t : State) : Prop where
  there : t.byteAt w = if s.ramAt w then some v else s.byteAt w
  others : SameMemoryBut [w] s t

/-- The cartridge, the APU registers and the output latch are as before. -/
structure SameDevices (s t : State) : Prop where
  cart : t.cart = s.cart
  apu : t.apu = s.apu
  outLatch : t.outLatch = s.outLatch

/-- The pins, the NMI latch, the reset request, the jam and the environment's pin script are as before. -/
structure SamePins (s t : State) : Prop where
  jammed : t.jammed = s.jammed
  irqLine : t.irqLine = s.irqLine
  nmiLine : t.nmiLine = s.nmiLine
  nmiPending : t.nmiPending = s.nmiPending
  nmiMid : t.nmiMid = s.nmiMid
  rstLine : t.rstLine = s.rstLine
  rstMid : t.rstMid = s.rstMid
  resetPending : t.resetPending = s.resetPending
  schedule : t.schedule = s.schedule

/-- The bus history and the environment's answers stand as in `u`. -/
structure SameTraffic (u t : State) : Prop where
  bus : t.bus = u.bus
  inputs : t.inputs = u.inputs
  draws : t.draws = u.draws

/-- The end of an instruction that is no control transfer and none of SEI, CLI, PLP: `pc` moves past it and the IRQ
gate takes the new `I` (R25, R320). -/
structure Retired (len : Word) (s t : State) : Prop where
  pc : t.pc = s.pc + len
  iPoll : t.iPoll = t.p.i

/-- Nothing is stored: memory, devices and pins are as before. -/
structure NoStore (s t : State) : Prop where
  memory : SameMemory s t
  devices : SameDevices s t
  pins : SamePins s t

/-- What every instruction that only reads its operand leaves: nothing is stored, and the bus has made the operand's
cycles (R118 class read, R373, R374). -/
structure ReadOnly (o : Operand) (s t : State) : Prop where
  retired : Retired o.length s t
  noStore : NoStore s t
  traffic : SameTraffic (s.operandRead o) t

/-- What every instruction of class write leaves but for the byte: no register, no flag (R118, R143). -/
structure WriteOnly (m : Mode) (v : Byte) (s t : State) : Prop where
  retired : Retired m.length s t
  flags : t.p = s.p
  stored : StoredByte (s.ea m) v s t
  cart : t.cart = s.cart
  apu : t.apu = s.apu.write (s.ea m).toNat v
  outLatch : t.outLatch = if (s.ea m).toNat = 0x4016 then v.extractLsb' 0 3 else s.outLatch
  pins : SamePins s t
  bus : t.bus = .write (s.ea m) v :: (s.addressed m .write).bus
  inputs : t.inputs = (s.addressed m .write).inputs
  draws : t.draws = (s.addressed m .write).draws

/-- What every instruction of class rmw leaves in memory and outside: the old byte is read and written back, then the
new byte `v` is written (R118). -/
structure ReadModifyWrite (m : Mode) (v : Byte) (s t : State) : Prop where
  retired : Retired m.length s t
  stored : StoredByte (s.ea m) v s t
  cart : t.cart = s.cart
  apu : t.apu = (s.apu.write (s.ea m).toNat (s.modifyOld m)).write (s.ea m).toNat v
  outLatch : t.outLatch = if (s.ea m).toNat = 0x4016 then v.extractLsb' 0 3 else s.outLatch
  pins : SamePins s t
  bus : t.bus = .write (s.ea m) v :: .write (s.ea m) (s.modifyOld m) :: .read (s.ea m) :: (s.addressed m .modify).bus
  inputs : t.inputs = ((s.addressed m .modify).readCycle (s.ea m)).inputs
  draws : t.draws = ((s.addressed m .modify).readCycle (s.ea m)).draws

/-- What every one-byte register or flag instruction leaves: nothing is stored, and the bus has made the dummy read of
`pc + 1` (R104, R105, R372). -/
structure ImpliedOnly (s t : State) : Prop where
  noStore : NoStore s t
  traffic : SameTraffic s.idle t

/-- The four byte registers hold these values. -/
structure Registers (a x y sp : Byte) (t : State) : Prop where
  a : t.a = a
  x : t.x = x
  y : t.y = y
  sp : t.sp = sp

/-- What one push leaves but for S: the byte at `$0100 + S`, nothing else stored, the cycles of R376. -/
structure PushedByte (v : Byte) (s t : State) : Prop where
  sp : t.sp = s.sp - 1
  there : t.byteAt (stackAddress s.sp) = some v
  others : SameMemoryBut [stackAddress s.sp] s t
  devices : SameDevices s t
  pins : SamePins s t
  bus : t.bus = .write (stackAddress s.sp) v :: .read (s.pc + 1) :: s.bus

/-- What an interrupt entry leaves: PC and P on the stack, high byte first, flags as they were with B = `b`; S down by
three, I and `i_poll` set, PC from the vector `vec`, a pending NMI consumed; nothing else in memory, no register and no
device has changed; `lead` are the cycles before the pushes, newest first (R238, R310, R311, R312, R376). -/
structure Entered (ret : Word) (b : Bool) (vec : Word) (lead : List BusCycle) (s t : State) : Prop where
  registers : Registers s.a s.x s.y (s.sp - 3) t
  flags : t.p = { s.p with i := true }
  iPoll : t.iPoll = true
  high : t.byteAt (stackAddress s.sp) = some (hiByte ret)
  low : t.byteAt (stackAddress (s.sp - 1)) = some (loByte ret)
  status : t.byteAt (stackAddress (s.sp - 2)) = some (s.p.pack b)
  others : SameMemoryBut [stackAddress s.sp, stackAddress (s.sp - 1), stackAddress (s.sp - 2)] s t
  pc : ∀ lo hi, s.byteAt vec = some lo → s.byteAt (vec + 1) = some hi → t.pc = wordOf lo hi
  devices : SameDevices s t
  nmiPending : t.nmiPending = false
  jammed : t.jammed = s.jammed
  irqLine : t.irqLine = s.irqLine
  nmiLine : t.nmiLine = s.nmiLine
  rstLine : t.rstLine = s.rstLine
  rstMid : t.rstMid = s.rstMid
  resetPending : t.resetPending = s.resetPending
  schedule : t.schedule = s.schedule
  bus : t.bus = .read (vec + 1) :: .read vec :: .write (stackAddress (s.sp - 2)) (s.p.pack b) ::
    .write (stackAddress (s.sp - 1)) (loByte ret) :: .write (stackAddress s.sp) (hiByte ret) :: (lead ++ s.bus)

/-- The byte stored at an address once the cycles `cs` are made: what the last of them that writes a RAM cell there
wrote, else what stood there (R71). -/
def State.storedBy (s : State) (cs : List BusCycle) (a : Word) : Option Byte :=
  cs.foldl (fun old c => match c with
    | .read _ => old
    | .write w v => if s.ramAt w ∧ s.target a = s.target w then some v else old) (s.byteAt a)

/-- The state after a list of read cycles, in order; the statements name with it the dummy reads of R372 to R376. -/
def State.readCycles (s : State) (as : List Word) : State := as.foldl State.readCycle s

end Sys2Proof.Machine
end

