-- ==== Sys2Proof/Certificates/Slice0/Obligations.lean ====
section
/-! DEFINITION. The statements for the provers. A name ending in `Forms` is the list, for an operand, of the opcode bytes
and instructions of a mnemonic (Machine/Forms.lean), so that a statement over such a list holds for every form. -/

section

open Sys2Proof Sys2Proof.Machine

/-- State.reset holds A = X = Y = 0, S = $FD, the flags C Z D V N clear and I set, i_poll = 1, nmi_pending = 0, jammed =
0, and pc is the word the bus reads at $FFFC and $FFFD. The spec guarantees I, i_poll, nmi_pending, jammed and pc;
that A, X, Y, S and the other flags hold the values measured on one unit is the model's choice (log 8). (rests on
R49, 10_state.md, 92_eei_decisions.md; derived.) -/
def Obligations.ResetHoldsPowerUpValues : Prop :=
  Registers 0 0 0 0xFD State.reset ∧
  State.reset.p = { n := false, v := false, d := false, i := true, z := false, c := false } ∧
  State.reset.iPoll = true ∧ State.reset.nmiPending = false ∧ State.reset.jammed = false ∧
  State.reset.pc = wordOf (State.reset.busRead 0xFFFC) (State.reset.busRead 0xFFFD)

/-- State.reset satisfies State.Inv (RAM list canonical and listing RAM cells only, ROM list canonical), and the default
cartridge passes every check of Cart.wellFormed. The canonical form is the model's own (log 6, log 7). (rests on R69,
R51, 20_memory.md; derived.) -/
def Obligations.ResetMeetsInvariant : Prop :=
  State.reset.Inv ∧ State.reset.cart.wellFormed = true

/-- For every state s that meets State.Inv, if step s answers next t, then t meets State.Inv. The form of the lists is
the model's own (log 6, log 7). (rests on R62, R69, R71, 20_memory.md; derived.) -/
def Obligations.StepKeepsInvariant : Prop :=
  ∀ s t : State, s.Inv → step s = .next t → t.Inv

/-- For every step s to t: the cartridge is the same, and every address that is not internal or cartridge RAM holds the
byte it held (ROM cannot be written). (rests on R71, R331; derived.) -/
def Obligations.StepKeepsRom : Prop :=
  ∀ s t : State, step s = .next t → t.cart = s.cart ∧ ∀ a, s.ramAt a = false → t.byteAt a = s.byteAt a

/-- For every well-formed instruction i, with every value of its operand, and any bytes after it: decode (encode i ++
rest) is i and rest. (rests on R100, R101, R102, R119, 30_encoding.md; derived.) -/
def Obligations.DecodeOfEncode : Prop :=
  ∀ (i : Instr) (rest : List Byte), i.wellFormed = true → decode (encode i ++ rest) = .ok (i, rest)

/-- All 256 opcode bytes decode, whatever the operand bytes; the decoded instruction is 1, 2 or 3 bytes long, and its
encoding followed by what the decoder left is the input. What decodes from a shorter list re-encodes to it too.
(rests on R100, R101, R122, 30_encoding.md; derived.) -/
def Obligations.EveryOpcodeDecodesAndReencodes : Prop :=
  (∀ (b0 b1 b2 : Byte) (rest : List Byte), ∃ i left, decode (b0 :: b1 :: b2 :: rest) = .ok (i, left) ∧
    (i.length = 1 ∨ i.length = 2 ∨ i.length = 3)) ∧
  ∀ (bytes left : List Byte) (i : Instr), decode bytes = .ok (i, left) → encode i ++ left = bytes

/-- LDA #$00 is A9 00; STA $0200 is 8D 00 02; TXS is 9A; PHA is 48; ADC ($10),Y is 71 10; INC $10 is E6 10; BIT $1234 is
2C 34 12; ROR A is 6A; BNE with offset $FE is D0 FE; JMP ($02FF) is 6C FF 02; JSR $1234 is 20 34 12; BRK is 00; RTI
is 40; SLO $10 is 07 10; SHA $1234,Y is 9F 34 12; JAM is 02. (rests on R119, R120, R121, 30_encoding.md; derived.) -/
def Obligations.SpecWordsDecode : Prop :=
  decode [0xA9, 0x00] = .ok (.ldaImm 0x00, []) ∧ decode [0x8D, 0x00, 0x02] = .ok (.staAbs 0x0200, []) ∧
  decode [0x9A] = .ok (.txs, []) ∧ decode [0x48] = .ok (.pha, []) ∧
  decode [0x71, 0x10] = .ok (.adcIzy 0x10, []) ∧ decode [0xE6, 0x10] = .ok (.incZp 0x10, []) ∧
  decode [0x2C, 0x34, 0x12] = .ok (.bitAbs 0x1234, []) ∧ decode [0x6A] = .ok (.rorAcc, []) ∧
  decode [0xD0, 0xFE] = .ok (.bneRel 0xFE, []) ∧ decode [0x6C, 0xFF, 0x02] = .ok (.jmpInd 0x02FF, []) ∧
  decode [0x20, 0x34, 0x12] = .ok (.jsrAbs 0x1234, []) ∧ decode [0x00] = .ok (.brk, []) ∧
  decode [0x40] = .ok (.rti, []) ∧ decode [0x07, 0x10] = .ok (.sloZp 0x10, []) ∧
  decode [0x9F, 0x34, 0x12] = .ok (.shaAby 0x1234, []) ∧ decode [0x02] = .ok (.jam02, [])

/-- Let e be s after the environment's pin events. If e is not busy (no reset, jam, hold, pending NMI or gated IRQ, no
fall of /RST in the step) and the bytes stored at e.pc, e.pc+1, e.pc+2 (as many as the instruction has) decode to i,
then step s refuses i where its opcode is one of the seven unstable ones, as R250 says, and else is exec of i at e
with a mid-step /NMI fall latched and one read cycle recorded for each fetched byte, in address order; of JSR only
two are fetched, it reads the third itself. That the other undocumented opcodes run is the model's choice of
ADMIT_UNOFFICIAL = true (log 1). That /NMI may fall inside the step is log 11. (rests on R320, R305, R100, R250,
60_exceptions.md, 46_unofficial.md; derived.) -/
def Obligations.StepRunsDecodedInstruction : Prop :=
  ∀ (s : State) (b0 b1 b2 : Byte) (i : Instr) (left : List Byte), s.environment.busy = false →
    decode [b0, b1, b2] = .ok (i, left) → s.environment.byteAt s.environment.pc = some b0 →
    (1 < i.length → s.environment.byteAt (s.environment.pc + 1) = some b1) →
    (2 < i.length → s.environment.byteAt (s.environment.pc + 2) = some b2) →
    step s = if b0 ∈ unstableOpcodes then .refused (.declined b0) else exec i { s.environment.latchNmi with
      bus := ((List.range (if b0 = 0x20 then 2 else i.length)).map
        fun k => BusCycle.read (s.environment.pc + BitVec.ofNat 16 k)).reverse ++ s.environment.bus }

/-- The step refuses an unstable opcode (R266 to R271) where it would fetch it, answers a next state where an entry, a
reset, a hold or a jam comes instead, and every step answers a next state or refuses such an opcode. With
ADMIT_UNOFFICIAL true or false an instruction step refuses the seven unstable opcodes, with false all 105
undocumented ones, and it is the meaning of every other opcode. Of the 256 opcodes 27 are kind 1, 59 kind 2, 7 kind
3, 12 kind 4 and 151 documented. The step takes true: the model's choice (log 1). exec of every instruction answers a
next state: for the unstable ones, which no step reaches, with free values (log 2), for JAM a jammed state (log 3),
both the model's choice. (rests on R300, R250, R266, R267, R268, R269, R270, R271, R276, 60_exceptions.md,
46_unofficial.md; derived.) -/
def Obligations.OnlyUnstableOpcodesAreRefused : Prop :=
  let unstable : List Byte := [0x8B, 0xAB, 0x9F, 0x93, 0x9E, 0x9C, 0x9B]
  (∀ (i : Instr) (s : State), ∃ t, exec i s = .next t) ∧
  (∀ s : State, s.environment.busy = false → s.environment.busRead s.environment.pc ∈ unstable →
    step s = .refused (.declined (s.environment.busRead s.environment.pc))) ∧
  (∀ s : State, s.environment.rstMid = none → s.environment.busy = true → ∃ t, step s = .next t) ∧
  (∀ s : State, (∃ t, step s = .next t) ∨ (s.environment.busRead s.environment.pc ∈ unstable ∧
    step s = .refused (.declined (s.environment.busRead s.environment.pc)))) ∧
  (∀ (s : State) (unofficial : Bool), s.busRead s.pc ∈ unstable →
    s.runInstructionUnder (.ofSpec unofficial) = .refused (.declined (s.busRead s.pc))) ∧
  (∀ s : State, opcodeKind (s.busRead s.pc) ≠ .documented →
    s.runInstructionUnder (.ofSpec false) = .refused (.declined (s.busRead s.pc))) ∧
  (∀ (s : State) (unofficial : Bool), (opcodeKind (s.busRead s.pc) = .documented ∨
      unofficial = true ∧ opcodeKind (s.busRead s.pc) ≠ .unstable) →
    s.runInstructionUnder (.ofSpec unofficial) = exec s.fetch.1 s.fetch.2) ∧
  let bytes : List Byte := (List.range 256).map (BitVec.ofNat 8)
  (bytes.filter fun b => opcodeKind b = .nop).length = 27 ∧
  (bytes.filter fun b => opcodeKind b = .stable).length = 59 ∧
  (bytes.filter fun b => opcodeKind b = .unstable).length = 7 ∧
  (bytes.filter fun b => opcodeKind b = .jam).length = 12 ∧
  (bytes.filter fun b => opcodeKind b = .documented).length = 151

/-- Let e be s after the environment's pin events. An instruction step adds to the bus history exactly the cycles the
table of R371 gives the fetched instruction, page crossing and taken branches counted (JAM, which does not end, the
two of R372); an NMI or IRQ entry and the reset sequence add seven. (rests on R371, R74, R372, R373, R374, R375,
R376, 70_reset_and_hazards.md; derived.) -/
def Obligations.StepTakesTableCycles : Prop :=
  (∀ s t : State, s.environment.busy = false → step s = .next t →
    t.bus.length = s.environment.bus.length + cycles s.environment.fetch.1 s.environment) ∧
  (∀ (s : State) (v : Word), (s.interrupt v).bus.length = s.bus.length + 7) ∧
  ∀ s : State, s.resetSequence.bus.length = s.bus.length + 7

/-- For every instruction at every state: unless its mnemonic is among the writers that R27 to R32 and the rules of the
undocumented instructions name for the flag, that flag is unchanged. That the unstable ANE and LXA write Z and N is
the model's choice (log 2). (rests on R26, R27, R28, R29, R30, R31, R32, 10_state.md, 46_unofficial.md; derived.) -/
def Obligations.OnlyNamedInstructionsWriteFlags : Prop :=
  ∀ (i : Instr) (s t : State), exec i s = .next t →
    (i.mnemonic ∉ ["ADC", "SBC", "CMP", "CPX", "CPY", "ASL", "LSR", "ROL", "ROR", "SEC", "CLC",
                     "PLP", "RTI", "SLO", "RLA", "SRE", "RRA", "DCP", "ISC", "ANC", "ALR", "ARR",
                     "AXS"] → t.p.c = s.p.c) ∧
    (i.mnemonic ∉ ["LDA", "LDX", "LDY", "TAX", "TAY", "TXA", "TYA", "TSX", "PLA", "ADC", "SBC",
                     "CMP", "CPX", "CPY", "INC", "INX", "INY", "DEC", "DEX", "DEY", "AND", "ORA",
                     "EOR", "BIT", "ASL", "LSR", "ROL", "ROR", "PLP", "RTI", "SLO", "RLA", "SRE",
                     "RRA", "DCP", "ISC", "LAX", "LAS", "ANC", "ALR", "ARR", "AXS", "ANE", "LXA"] → t.p.z = s.p.z ∧ t.p.n = s.p.n) ∧
    (i.mnemonic ∉ ["CLI", "SEI", "PLP", "RTI", "BRK"] → t.p.i = s.p.i) ∧
    (i.mnemonic ∉ ["CLD", "SED", "PLP", "RTI"] → t.p.d = s.p.d) ∧
    (i.mnemonic ∉ ["ADC", "SBC", "BIT", "CLV", "PLP", "RTI", "RRA", "ISC", "ARR"] → t.p.v = s.p.v)

/-- For every instruction at every state: unless its mnemonic is among the writers that R21 to R24 and the rules of the
undocumented instructions name for the register, that register is unchanged. That the unstable ANE, LXA and TAS write
A, X and S is the model's choice (log 2). (rests on R21, R22, R23, R24, 10_state.md, 46_unofficial.md; derived.) -/
def Obligations.OnlyNamedInstructionsWriteRegisters : Prop :=
  ∀ (i : Instr) (s t : State), exec i s = .next t →
    (i.mnemonic ∉ ["LDA", "PLA", "TXA", "TYA", "ADC", "SBC", "AND", "ORA", "EOR", "ASL", "LSR",
                     "ROL", "ROR", "SLO", "RLA", "SRE", "RRA", "ISC", "LAX", "LAS", "ANC", "ALR",
                     "ARR", "ANE", "LXA"] → t.a = s.a) ∧
    (i.mnemonic ∉ ["LDX", "TAX", "TSX", "INX", "DEX", "LAX", "LAS", "AXS", "LXA"] → t.x = s.x) ∧
    (i.mnemonic ∉ ["LDY", "TAY", "INY", "DEY"] → t.y = s.y) ∧
    (i.mnemonic ∉ ["TXS", "PHA", "PHP", "PLA", "PLP", "JSR", "RTS", "RTI", "BRK", "LAS", "TAS"] → t.sp = s.sp)

/-- For every instruction at every state: unless it is a store, a read-modify-write, a push, JSR or BRK, every byte of
memory reads as before and the APU registers and the output latch are unchanged. Every instruction leaves the pins,
the cartridge and a due reset alone, only BRK can consume a pending NMI, and only JAM sets jammed. (rests on R118,
R71, R40, R44, 20_memory.md; derived.) -/
def Obligations.OnlyStoresChangeMemoryAndDevices : Prop :=
  ∀ (i : Instr) (s t : State), exec i s = .next t →
    (i.mnemonic ∉ ["STA", "STX", "STY", "SAX", "INC", "DEC", "ASL", "LSR", "ROL", "ROR", "PHA",
                     "PHP", "JSR", "BRK", "SLO", "RLA", "SRE", "RRA", "DCP", "ISC", "SHA", "SHX",
                     "SHY", "TAS"] →
      SameMemory s t ∧ t.apu = s.apu ∧ t.outLatch = s.outLatch) ∧
    t.cart = s.cart ∧ t.irqLine = s.irqLine ∧ t.nmiLine = s.nmiLine ∧ t.rstLine = s.rstLine ∧
    t.nmiMid = s.nmiMid ∧ t.rstMid = s.rstMid ∧ t.resetPending = s.resetPending ∧ t.schedule = s.schedule ∧
    (i.mnemonic ≠ "BRK" → t.nmiPending = s.nmiPending) ∧ (i.mnemonic ≠ "JAM" → t.jammed = s.jammed)

/-- Two states that differ only in D: every instruction but PHP and BRK, which push the flags, takes them to states that
differ only in D, or, for the four instructions that write D, to the same state. (rests on R30, R181, R100,
10_state.md; derived.) -/
def Obligations.DecimalFlagChangesNothingElse : Prop :=
  ∀ (i : Instr) (s : State) (d : Bool), i.mnemonic ∉ ["PHP", "BRK"] →
    ∃ t, exec i s = .next t ∧
      exec i { s with p := { s.p with d := d } } =
        .next { t with p := { t.p with
          d := if i.mnemonic ∈ ["SED", "CLD", "PLP", "RTI"] then t.p.d else d } }

/-- At the end of every instruction but JAM, i_poll is the value I had before it if the instruction is SEI, CLI or PLP,
and the value of I after it otherwise. The reading of the one-instruction delay is the spec's decision D12 (log 14).
(rests on R42, R306, 10_state.md, 92_eei_decisions.md; derived.) -/
def Obligations.GateSeesOldInterruptDisableOnlyAfterCliSeiPlp : Prop :=
  ∀ (i : Instr) (s : State), i.mnemonic ≠ "JAM" →
    ∃ t, exec i s = .next t ∧ t.iPoll = if i.mnemonic ∈ ["SEI", "CLI", "PLP"] then s.p.i else t.p.i

/-- $0000-$1FFF reads the RAM cell a mod $0800; $2000-$401F, cartridge devices and unmapped space read the environment's
next byte; cartridge ROM and RAM read their byte. The cycle is recorded and nothing else changes but that a device or
open-bus read uses up one answer of the environment. All of $4000-$4017 are device reads (log 5). (rests on R70, R62,
R69, R78, 20_memory.md; derived.) -/
def Obligations.ReadCycleFollowsAddressMap : Prop :=
  ∀ (s : State) (a : Word),
    (a.toNat < 0x2000 → s.busRead a = s.ramByte (a.toNat % 0x800)) ∧
    (0x2000 ≤ a.toNat → a.toNat < 0x4020 → s.busRead a = s.drawValue) ∧
    (0x4020 ≤ a.toNat → s.busRead a = match s.cart.kindAt a.toNat with
      | .rom => s.romByte a.toNat
      | .ram => s.ramByte a.toNat
      | .device => s.drawValue
      | .unmapped => s.drawValue) ∧
    s.readCycle a = { s with
      bus := .read a :: s.bus
      inputs := if (s.byteAt a).isSome then s.inputs else s.inputs.tail
      draws := if (s.byteAt a).isSome then s.draws else s.draws + 1 }

/-- After a write of v at a: below $2000 exactly the addresses of the same RAM cell (equal modulo $0800) hold v; at a
cartridge RAM address exactly that address holds v; at any other address no byte of memory changes. The cycle is
recorded; registers, flags, pins and cartridge are unchanged; a write to $4016 latches bits 0 to 2. (rests on R71,
R62, R69, R47, 20_memory.md; derived.) -/
def Obligations.WriteCycleFollowsAddressMap : Prop :=
  ∀ (s : State) (a b : Word) (v : Byte),
    (a.toNat < 0x2000 → (s.writeCycle a v).byteAt b =
      if b.toNat < 0x2000 ∧ b.toNat % 0x800 = a.toNat % 0x800 then some v else s.byteAt b) ∧
    (0x4020 ≤ a.toNat → s.cart.kindAt a.toNat = .ram →
      (s.writeCycle a v).byteAt b = if b = a then some v else s.byteAt b) ∧
    (0x2000 ≤ a.toNat → (0x4020 ≤ a.toNat → s.cart.kindAt a.toNat ≠ .ram) →
      (s.writeCycle a v).byteAt b = s.byteAt b) ∧
    (s.writeCycle a v).outLatch = (if a.toNat = 0x4016 then v.extractLsb' 0 3 else s.outLatch) ∧
    SamePins s (s.writeCycle a v) ∧ (s.writeCycle a v).cart = s.cart ∧
    Registers s.a s.x s.y s.sp (s.writeCycle a v) ∧ (s.writeCycle a v).p = s.p ∧
    (s.writeCycle a v).bus = .write a v :: s.bus

/-- Push(v) stores v at $0100 + S, leaves every other byte of memory alone and decrements S modulo 256. Pull() increments
S modulo 256 and returns the byte at $0100 + S. The stack address lies in $0100-$01FF. A pull right after a push
returns the pushed byte and restores S. (R75, R76; stated.) -/
def Obligations.PushAndPullUsePageOne : Prop :=
  ∀ (s : State) (v : Byte),
    (∀ p : Byte, (stackAddress p).toNat = 0x100 + p.toNat) ∧
    (s.push v).sp.toNat = (s.sp.toNat + 255) % 256 ∧
    (s.push v).byteAt (stackAddress s.sp) = some v ∧ SameMemoryBut [stackAddress s.sp] s (s.push v) ∧
    (s.push v).bus = .write (stackAddress s.sp) v :: s.bus ∧
    s.pulled.sp.toNat = (s.sp.toNat + 1) % 256 ∧
    s.byteAt (stackAddress (s.sp + 1)) = some s.pullValue ∧ SameMemory s s.pulled ∧
    s.pulled.bus = .read (stackAddress (s.sp + 1)) :: s.bus ∧
    (s.push v).pullValue = v ∧ (s.push v).pulled.sp = s.sp

/-- PackP(b) has the six flags, a constant 1 and b in the bit places of R35, as a number N*128 + V*64 + 32 + b*16 + D*8 +
I*4 + Z*2 + C; UnpackP after it restores the six flags; PackP after UnpackP(v) is v | $30 with b = 1 and (v | $20) &
$EF with b = 0. (rests on R34, R35, R36, R37, 10_state.md; derived.) -/
def Obligations.PushedFlagByteKeepsFlags : Prop :=
  ∀ (p : Flags) (b : Bool) (v : Byte),
    (p.pack b).toNat = p.n.toNat * 128 + p.v.toNat * 64 + 32 + b.toNat * 16 + p.d.toNat * 8 + p.i.toNat * 4 +
      p.z.toNat * 2 + p.c.toNat ∧
    (p.pack b).getLsbD 7 = p.n ∧ (p.pack b).getLsbD 6 = p.v ∧ (p.pack b).getLsbD 5 = true ∧
    (p.pack b).getLsbD 4 = b ∧ (p.pack b).getLsbD 3 = p.d ∧ (p.pack b).getLsbD 2 = p.i ∧
    (p.pack b).getLsbD 1 = p.z ∧ (p.pack b).getLsbD 0 = p.c ∧ Flags.unpack (p.pack b) = p ∧
    (Flags.unpack v).pack true = v ||| 0x30 ∧ (Flags.unpack v).pack false = (v ||| 0x20) &&& 0xEF

/-- As numbers: zp is the byte; zp,X and zp,Y are the sum modulo 256; abs is the word; abs,X and abs,Y are the sum modulo
65536; (zp,X) is the word whose low byte is RAM cell (z + X) mod 256 and whose high byte is cell (z + X + 1) mod 256;
(zp),Y is the word at cells z and (z + 1) mod 256, plus Y, modulo 65536. abs,X crosses a page exactly when lo(base) +
X is 256 or more, abs,Y and (zp),Y likewise with Y, the other modes never. (rests on R107, R108, R109, R110, R111,
R112, R113, R114, R117, 30_encoding.md; derived.) -/
def Obligations.EffectiveAddresses : Prop :=
  ∀ (s : State) (z : Byte) (w : Word),
    let ptr : Nat → Nat := fun c => (s.ramByte ((c + 1) % 256)).toNat * 256 + (s.ramByte (c % 256)).toNat
    (s.ea (.zp z)).toNat = z.toNat ∧
    (s.ea (.zpx z)).toNat = (z.toNat + s.x.toNat) % 256 ∧
    (s.ea (.zpy z)).toNat = (z.toNat + s.y.toNat) % 256 ∧
    s.ea (.abs w) = w ∧
    (s.ea (.abx w)).toNat = (w.toNat + s.x.toNat) % 65536 ∧
    (s.ea (.aby w)).toNat = (w.toNat + s.y.toNat) % 65536 ∧
    (s.ea (.izx z)).toNat = ptr (z.toNat + s.x.toNat) ∧
    (s.ea (.izy z)).toNat = (ptr z.toNat + s.y.toNat) % 65536 ∧
    s.pageCross (.abx w) = decide (256 ≤ w.toNat % 256 + s.x.toNat) ∧
    s.pageCross (.aby w) = decide (256 ≤ w.toNat % 256 + s.y.toNat) ∧
    s.pageCross (.izy z) = decide (256 ≤ ptr z.toNat % 256 + s.y.toNat) ∧
    s.pageCross (.zp z) = false ∧ s.pageCross (.zpx z) = false ∧ s.pageCross (.zpy z) = false ∧
    s.pageCross (.abs w) = false ∧ s.pageCross (.izx z) = false

/-- Newest cycle first, after the operand bytes: a read makes the mode's own reads, on a page cross the dummy read of w,
then the read of ea; a write the same with the dummy read of w always in the modes abs,X, abs,Y and (zp),Y, then the
write of ea; a read-modify-write then reads ea, writes the old value and writes the new one. w is {hi(base), lo(base)
+ index}: ea without a page cross, ea - $0100 with one. (rests on R373, R374, R118, 70_reset_and_hazards.md;
derived.) -/
def Obligations.ModesMakeTheirBusCycles : Prop :=
  ∀ (s : State) (m : Mode) (v : Byte),
    let pointer : List BusCycle := match m with
      | .zp _ | .abs _ | .abx _ | .aby _ => []
      | .zpx z | .zpy z => [.read (zext16 z)]
      | .izx z => [.read (zext16 (z + s.x + 1)), .read (zext16 (z + s.x)), .read (zext16 z)]
      | .izy z => [.read (zext16 (z + 1)), .read (zext16 z)]
    let w : Word := if s.pageCross m then s.ea m - 0x100 else s.ea m
    let indexed : List BusCycle := match m with
      | .abx _ | .aby _ | .izy _ => [.read w]
      | _ => []
    (s.operandRead (.mem m)).bus =
      .read (s.ea m) :: ((if s.pageCross m then indexed else []) ++ pointer ++ s.bus) ∧
    (s.stored m v).bus = .write (s.ea m) v :: (indexed ++ pointer ++ s.bus) ∧
    (s.modified m v).bus = .write (s.ea m) v :: .write (s.ea m) (s.modifyOld m) :: .read (s.ea m) ::
      (indexed ++ pointer ++ s.bus) ∧
    ∀ n : Byte, (s.operandRead (.imm n)).bus = s.bus

/-- An immediate operand is its byte. Where RAM or ROM holds b at the effective address, the operand of a read and the
old byte of a read-modify-write are b, and reading an operand changes nothing but the bus history and the
environment's answers. Where a device or nothing answers, the operand is what the bus returns there after the mode's
own cycles. (rests on R106, R118, R70, 30_encoding.md; derived.) -/
def Obligations.OperandIsTheByteAtItsAddress : Prop :=
  ∀ (s : State) (m : Mode),
    (∀ n : Byte, s.operandValue (.imm n) = n) ∧
    (∀ b : Byte, s.byteAt (s.ea m) = some b → s.operandValue (.mem m) = b ∧ s.modifyOld m = b) ∧
    (s.byteAt (s.ea m) = none → s.operandValue (.mem m) = (s.addressed m .read).drawValue ∧
      s.modifyOld m = (s.addressed m .modify).drawValue) ∧
    ∀ o : Operand, NoStore s (s.operandRead o) ∧ Registers s.a s.x s.y s.sp (s.operandRead o) ∧
      (s.operandRead o).p = s.p ∧ (s.operandRead o).pc = s.pc

/-- For every form and every state the encoding is the opcode and the operand bytes, and exec answers the state with the
destination register equal to the operand, Z and N from it, pc past the instruction, i_poll = I, the operand's bus
cycles made, and every other register, flag, byte of memory, device and pin unchanged. (R140, R141, R142; stated.) -/
def Obligations.Loads : Prop :=
  ∀ (o : Operand) (s : State),
    let v := s.operandValue o
    (∀ f ∈ ldaForms o, encode f.2 = f.1 :: o.bytes ∧ ∃ t, exec f.2 s = .next t ∧ ReadOnly o s t ∧
      Registers v s.x s.y s.sp t ∧ t.p = { s.p with z := decide (v = 0), n := v.getLsbD 7 }) ∧
    (∀ f ∈ ldxForms o, encode f.2 = f.1 :: o.bytes ∧ ∃ t, exec f.2 s = .next t ∧ ReadOnly o s t ∧
      Registers s.a v s.y s.sp t ∧ t.p = { s.p with z := decide (v = 0), n := v.getLsbD 7 }) ∧
    (∀ f ∈ ldyForms o, encode f.2 = f.1 :: o.bytes ∧ ∃ t, exec f.2 s = .next t ∧ ReadOnly o s t ∧
      Registers s.a s.x v s.sp t ∧ t.p = { s.p with z := decide (v = 0), n := v.getLsbD 7 })

/-- For every form and every state exec answers the state in which the byte at ea (and its mirrors) is A, X, Y or A AND X
where RAM answers there, every other byte of memory reads as before, an APU or I/O register takes the byte, the
mode's cycles and the write are recorded, pc is past the instruction and every register and flag is unchanged. That
an APU or I/O register field keeps the byte is the model's choice (log 18). The undocumented opcode SAX is admitted
(log 1). (rests on R143, R144, R145, R255, R71, 40_load_store_transfer.md, 46_unofficial.md; derived.) -/
def Obligations.Stores : Prop :=
  ∀ (m : Mode) (s : State),
    (∀ f ∈ staForms m, encode f.2 = f.1 :: m.bytes ∧ ∃ t, exec f.2 s = .next t ∧ WriteOnly m s.a s t ∧
      Registers s.a s.x s.y s.sp t) ∧
    (∀ f ∈ stxForms m, encode f.2 = f.1 :: m.bytes ∧ ∃ t, exec f.2 s = .next t ∧ WriteOnly m s.x s t ∧
      Registers s.a s.x s.y s.sp t) ∧
    (∀ f ∈ styForms m, encode f.2 = f.1 :: m.bytes ∧ ∃ t, exec f.2 s = .next t ∧ WriteOnly m s.y s t ∧
      Registers s.a s.x s.y s.sp t) ∧
    (∀ f ∈ saxForms m, encode f.2 = f.1 :: m.bytes ∧ ∃ t, exec f.2 s = .next t ∧ WriteOnly m (s.a &&& s.x) s t ∧
      Registers s.a s.x s.y s.sp t)

/-- For every state, TAX, TAY, TXA, TYA and TSX copy the register and set Z and N from it; TXS copies X to S and leaves
every flag; one byte long, one dummy read of pc + 1, nothing else changes. (R146, R147, R148, R149, R150, R151;
stated.) -/
def Obligations.Transfers : Prop :=
  ∀ s : State,
    (encode .tax = [0xAA] ∧ ∃ t, exec .tax s = .next t ∧ Retired 1 s t ∧ ImpliedOnly s t ∧
      Registers s.a s.a s.y s.sp t ∧ t.p = { s.p with z := decide (s.a = 0), n := (s.a).getLsbD 7 }) ∧
    (encode .tay = [0xA8] ∧ ∃ t, exec .tay s = .next t ∧ Retired 1 s t ∧ ImpliedOnly s t ∧
      Registers s.a s.x s.a s.sp t ∧ t.p = { s.p with z := decide (s.a = 0), n := (s.a).getLsbD 7 }) ∧
    (encode .txa = [0x8A] ∧ ∃ t, exec .txa s = .next t ∧ Retired 1 s t ∧ ImpliedOnly s t ∧
      Registers s.x s.x s.y s.sp t ∧ t.p = { s.p with z := decide (s.x = 0), n := (s.x).getLsbD 7 }) ∧
    (encode .tya = [0x98] ∧ ∃ t, exec .tya s = .next t ∧ Retired 1 s t ∧ ImpliedOnly s t ∧
      Registers s.y s.x s.y s.sp t ∧ t.p = { s.p with z := decide (s.y = 0), n := (s.y).getLsbD 7 }) ∧
    (encode .tsx = [0xBA] ∧ ∃ t, exec .tsx s = .next t ∧ Retired 1 s t ∧ ImpliedOnly s t ∧
      Registers s.a s.sp s.y s.sp t ∧ t.p = { s.p with z := decide (s.sp = 0), n := (s.sp).getLsbD 7 }) ∧
    (encode .txs = [0x9A] ∧ ∃ t, exec .txs s = .next t ∧ Retired 1 s t ∧ ImpliedOnly s t ∧
      Registers s.a s.x s.y s.x t ∧ t.p = s.p)

/-- For every state PHA stores A, and PHP the flag byte N V 1 1 D I Z C, at $0100 + S; S drops by one modulo 256; one
byte long, one dummy read; no register but S, no flag and no other byte of memory changes. (R160, R161; stated.) -/
def Obligations.Pushes : Prop :=
  ∀ s : State,
    (encode .pha = [0x48] ∧ ∃ t, exec .pha s = .next t ∧ Retired 1 s t ∧ PushedByte s.a s t ∧
      t.a = s.a ∧ t.x = s.x ∧ t.y = s.y ∧ t.p = s.p) ∧
    (encode .php = [0x08] ∧ ∃ t v, exec .php s = .next t ∧ Retired 1 s t ∧ PushedByte v s t ∧
      v.toNat = s.p.n.toNat * 128 + s.p.v.toNat * 64 + 32 + 16 + s.p.d.toNat * 8 + s.p.i.toNat * 4 +
        s.p.z.toNat * 2 + s.p.c.toNat ∧
      t.a = s.a ∧ t.x = s.x ∧ t.y = s.y ∧ t.p = s.p)

/-- For every state, with v the byte at $0100 + (S + 1 mod 256): PLA puts v in A with Z and N from it; PLP puts bits 7,
6, 3, 2, 1, 0 of v in N, V, D, I, Z, C while the IRQ gate still sees the old I. S rises by one modulo 256, nothing is
stored, and the bus makes two dummy reads and the pull. (rests on R162, R163, R42, 41_stack.md; derived.) -/
def Obligations.Pulls : Prop :=
  ∀ (s : State) (v : Byte), s.byteAt (stackAddress (s.sp + 1)) = some v →
    (encode .pla = [0x68] ∧ ∃ t, exec .pla s = .next t ∧ Retired 1 s t ∧ NoStore s t ∧
      SameTraffic (s.readCycles [s.pc + 1, stackAddress s.sp, stackAddress (s.sp + 1)]) t ∧
      Registers v s.x s.y (s.sp + 1) t ∧ t.p = { s.p with z := decide (v = 0), n := v.getLsbD 7 }) ∧
    (encode .plp = [0x28] ∧ ∃ t, exec .plp s = .next t ∧ t.pc = s.pc + 1 ∧ t.iPoll = s.p.i ∧ NoStore s t ∧
      SameTraffic (s.readCycles [s.pc + 1, stackAddress s.sp, stackAddress (s.sp + 1)]) t ∧
      Registers s.a s.x s.y (s.sp + 1) t ∧
      t.p = { n := v.getLsbD 7, v := v.getLsbD 6, d := v.getLsbD 3, i := v.getLsbD 2, z := v.getLsbD 1,
              c := v.getLsbD 0 })

/-- For every form and state, with sum = A + M + C: A is sum mod 256, C is whether sum exceeds 255, V whether the signed
sum lies outside -128..127 (and, equivalently, the bit formula of R170), Z and N from the result; I and D unchanged
and D not read; nothing else changes but pc, i_poll and the operand's bus cycles. (R170; stated.) -/
def Obligations.AddWithCarry : Prop :=
  ∀ (o : Operand) (s : State),
    let m := s.operandValue o
    let sum := s.a.toNat + m.toNat + s.p.c.toNat
    let r : Byte := BitVec.ofNat 8 (sum % 256)
    let signed := s.a.toInt + m.toInt + (s.p.c.toNat : Int)
    (∀ f ∈ adcForms o, encode f.2 = f.1 :: o.bytes ∧ ∃ t, exec f.2 s = .next t ∧ ReadOnly o s t ∧
      Registers r s.x s.y s.sp t ∧
      t.p = { s.p with c := decide (255 < sum), v := decide (signed < -128 ∨ 127 < signed),
                       z := decide (r = 0), n := r.getLsbD 7 }) ∧
    (signed < -128 ∨ 127 < signed ↔ (s.a ^^^ r) &&& (m ^^^ r) &&& 0x80 ≠ 0)

/-- For every form and state: A becomes A - M - (1 - C) modulo 256, C is whether A >= M + (1 - C) as unsigned numbers, V
whether the signed difference lies outside -128..127 (and, equivalently, the bit formula of R171 on the complement of
M), Z and N from the result; I and D unchanged; nothing else changes but pc, i_poll and the operand's bus cycles. The
undocumented opcodes are admitted (log 1). (R171, R263; stated.) -/
def Obligations.SubtractWithCarry : Prop :=
  ∀ (o : Operand) (s : State),
    let m := s.operandValue o
    let borrow : Nat := if s.p.c then 0 else 1
    let r : Byte := BitVec.ofNat 8 (s.a.toNat + 256 - m.toNat - borrow)
    let signed := s.a.toInt - m.toInt - (borrow : Int)
    (∀ f ∈ sbcForms o, encode f.2 = f.1 :: o.bytes ∧ ∃ t, exec f.2 s = .next t ∧ ReadOnly o s t ∧
      Registers r s.x s.y s.sp t ∧
      t.p = { s.p with c := decide (m.toNat + borrow ≤ s.a.toNat), v := decide (signed < -128 ∨ 127 < signed),
                       z := decide (r = 0), n := r.getLsbD 7 }) ∧
    (signed < -128 ∨ 127 < signed ↔ (s.a ^^^ r) &&& ((m ^^^ 0xFF) ^^^ r) &&& 0x80 ≠ 0)

/-- For every form and state: C is whether the register is at least the operand as unsigned bytes, Z whether they are
equal, N bit 7 of the 8-bit difference; V, I, D and every register unchanged, nothing stored; pc, i_poll and the
operand's bus cycles as of any read. (R172, R173, R174; stated.) -/
def Obligations.Compares : Prop :=
  ∀ (o : Operand) (s : State),
    let m := s.operandValue o
    (∀ f ∈ cmpForms o, encode f.2 = f.1 :: o.bytes ∧ ∃ t, exec f.2 s = .next t ∧ ReadOnly o s t ∧
      Registers s.a s.x s.y s.sp t ∧ t.p = { s.p with c := decide (m.toNat ≤ s.a.toNat), z := decide (s.a = m), n := (s.a - m).getLsbD 7 }) ∧
    (∀ f ∈ cpxForms o, encode f.2 = f.1 :: o.bytes ∧ ∃ t, exec f.2 s = .next t ∧ ReadOnly o s t ∧
      Registers s.a s.x s.y s.sp t ∧ t.p = { s.p with c := decide (m.toNat ≤ s.x.toNat), z := decide (s.x = m), n := (s.x - m).getLsbD 7 }) ∧
    (∀ f ∈ cpyForms o, encode f.2 = f.1 :: o.bytes ∧ ∃ t, exec f.2 s = .next t ∧ ReadOnly o s t ∧
      Registers s.a s.x s.y s.sp t ∧ t.p = { s.p with c := decide (m.toNat ≤ s.y.toNat), z := decide (s.y = m), n := (s.y - m).getLsbD 7 })

/-- For every form and state: with old the byte read at ea, memory at ea becomes old + 1 (INC) or old - 1 (DEC) modulo
256 after the old value is written back; Z and N follow the result; C, V, I, D and every register unchanged; no other
byte of memory changes. That an APU register field keeps the byte last written is the model's choice (log 18). (rests
on R175, R176, R118, 42_arithmetic.md; derived.) -/
def Obligations.MemoryIncrements : Prop :=
  ∀ (m : Mode) (s : State),
    let up : Byte := BitVec.ofNat 8 ((s.modifyOld m).toNat + 1)
    let down : Byte := BitVec.ofNat 8 ((s.modifyOld m).toNat + 255)
    (∀ f ∈ incForms m, encode f.2 = f.1 :: m.bytes ∧ ∃ t, exec f.2 s = .next t ∧ ReadModifyWrite m up s t ∧
      Registers s.a s.x s.y s.sp t ∧ t.p = { s.p with z := decide (up = 0), n := (up).getLsbD 7 }) ∧
    (∀ f ∈ decForms m, encode f.2 = f.1 :: m.bytes ∧ ∃ t, exec f.2 s = .next t ∧ ReadModifyWrite m down s t ∧
      Registers s.a s.x s.y s.sp t ∧ t.p = { s.p with z := decide (down = 0), n := (down).getLsbD 7 })

/-- For every state: INX and INY add one, DEX and DEY subtract one, modulo 256; Z and N from the result; C, V, I, D, the
other registers and memory unchanged; one byte long, one dummy read of pc + 1. (R177, R178, R179, R180; stated.) -/
def Obligations.IndexIncrements : Prop :=
  ∀ s : State,
    let up : Byte → Byte := fun b => BitVec.ofNat 8 (b.toNat + 1)
    let down : Byte → Byte := fun b => BitVec.ofNat 8 (b.toNat + 255)
    (encode .inx = [0xE8] ∧ ∃ t, exec .inx s = .next t ∧ Retired 1 s t ∧ ImpliedOnly s t ∧
      Registers s.a (up s.x) s.y s.sp t ∧ t.p = { s.p with z := decide (up s.x = 0), n := (up s.x).getLsbD 7 }) ∧
    (encode .iny = [0xC8] ∧ ∃ t, exec .iny s = .next t ∧ Retired 1 s t ∧ ImpliedOnly s t ∧
      Registers s.a s.x (up s.y) s.sp t ∧ t.p = { s.p with z := decide (up s.y = 0), n := (up s.y).getLsbD 7 }) ∧
    (encode .dex = [0xCA] ∧ ∃ t, exec .dex s = .next t ∧ Retired 1 s t ∧ ImpliedOnly s t ∧
      Registers s.a (down s.x) s.y s.sp t ∧ t.p = { s.p with z := decide (down s.x = 0), n := (down s.x).getLsbD 7 }) ∧
    (encode .dey = [0x88] ∧ ∃ t, exec .dey s = .next t ∧ Retired 1 s t ∧ ImpliedOnly s t ∧
      Registers s.a s.x (down s.y) s.sp t ∧ t.p = { s.p with z := decide (down s.y = 0), n := (down s.y).getLsbD 7 })

/-- For every form and state: A becomes A AND, OR or exclusive OR the operand; Z and N from the result; C, V, I, D, the
other registers and memory unchanged; pc, i_poll and the operand's bus cycles as of any read. (R190, R191, R192;
stated.) -/
def Obligations.LogicOperations : Prop :=
  ∀ (o : Operand) (s : State),
    let m := s.operandValue o
    (∀ f ∈ andForms o, encode f.2 = f.1 :: o.bytes ∧ ∃ t, exec f.2 s = .next t ∧ ReadOnly o s t ∧
      Registers (s.a &&& m) s.x s.y s.sp t ∧ t.p = { s.p with z := decide (s.a &&& m = 0), n := (s.a &&& m).getLsbD 7 }) ∧
    (∀ f ∈ oraForms o, encode f.2 = f.1 :: o.bytes ∧ ∃ t, exec f.2 s = .next t ∧ ReadOnly o s t ∧
      Registers (s.a ||| m) s.x s.y s.sp t ∧ t.p = { s.p with z := decide (s.a ||| m = 0), n := (s.a ||| m).getLsbD 7 }) ∧
    (∀ f ∈ eorForms o, encode f.2 = f.1 :: o.bytes ∧ ∃ t, exec f.2 s = .next t ∧ ReadOnly o s t ∧
      Registers (s.a ^^^ m) s.x s.y s.sp t ∧ t.p = { s.p with z := decide (s.a ^^^ m = 0), n := (s.a ^^^ m).getLsbD 7 })

/-- For both forms and every state: Z is whether A AND the operand is zero, N and V are bits 7 and 6 of the operand; C,
I, D and every register unchanged; nothing stored. (R193; stated.) -/
def Obligations.BitTest : Prop :=
  ∀ (o : Operand) (s : State),
    let m := s.operandValue o
    (∀ f ∈ bitForms o, encode f.2 = f.1 :: o.bytes ∧ ∃ t, exec f.2 s = .next t ∧ ReadOnly o s t ∧
      Registers s.a s.x s.y s.sp t ∧ t.p = { s.p with z := decide (s.a &&& m = 0), n := m.getLsbD 7, v := m.getLsbD 6 })

/-- For every form and state, with old the byte: ASL leaves 2*old mod 256, ROL adds the old C; C is whether old is 128 or
more; Z and N from the result; V, I, D unchanged. On A only A changes; on memory the old byte is written back first,
no register changes and no other byte. That an APU register field keeps the byte last written is the model's choice
(log 18). (rests on R194, R196, R118, 43_logic_shift.md; derived.) -/
def Obligations.LeftShifts : Prop :=
  ∀ (m : Mode) (s : State),
    let asl : Byte → Byte := fun b => BitVec.ofNat 8 (2 * b.toNat)
    let rol : Byte → Byte := fun b => BitVec.ofNat 8 (2 * b.toNat + s.p.c.toNat)
    let out : Byte → Bool := fun b => decide (128 ≤ b.toNat)
    (encode .aslAcc = [0x0A] ∧ ∃ t, exec .aslAcc s = .next t ∧ Retired 1 s t ∧ ImpliedOnly s t ∧
      Registers (asl s.a) s.x s.y s.sp t ∧
      t.p = { s.p with z := decide (asl s.a = 0), n := (asl s.a).getLsbD 7, c := out s.a }) ∧
    (∀ f ∈ aslForms m, encode f.2 = f.1 :: m.bytes ∧ ∃ t, exec f.2 s = .next t ∧
      ReadModifyWrite m (asl (s.modifyOld m)) s t ∧ Registers s.a s.x s.y s.sp t ∧
      t.p = { s.p with z := decide (asl (s.modifyOld m) = 0), n := (asl (s.modifyOld m)).getLsbD 7,
                       c := out (s.modifyOld m) }) ∧
    (encode .rolAcc = [0x2A] ∧ ∃ t, exec .rolAcc s = .next t ∧ Retired 1 s t ∧ ImpliedOnly s t ∧
      Registers (rol s.a) s.x s.y s.sp t ∧
      t.p = { s.p with z := decide (rol s.a = 0), n := (rol s.a).getLsbD 7, c := out s.a }) ∧
    (∀ f ∈ rolForms m, encode f.2 = f.1 :: m.bytes ∧ ∃ t, exec f.2 s = .next t ∧
      ReadModifyWrite m (rol (s.modifyOld m)) s t ∧ Registers s.a s.x s.y s.sp t ∧
      t.p = { s.p with z := decide (rol (s.modifyOld m) = 0), n := (rol (s.modifyOld m)).getLsbD 7,
                       c := out (s.modifyOld m) })

/-- For every form and state, with old the byte: LSR leaves old/2, ROR adds 128 times the old C; C is whether old is odd;
Z and N from the result; V, I, D unchanged. On A only A changes; on memory the old byte is written back first, no
register changes and no other byte. That an APU register field keeps the byte last written is the model's choice (log
18). (rests on R195, R197, R118, 43_logic_shift.md; derived.) -/
def Obligations.RightShifts : Prop :=
  ∀ (m : Mode) (s : State),
    let lsr : Byte → Byte := fun b => BitVec.ofNat 8 (b.toNat / 2)
    let ror : Byte → Byte := fun b => BitVec.ofNat 8 (b.toNat / 2 + 128 * s.p.c.toNat)
    let out : Byte → Bool := fun b => decide (b.toNat % 2 = 1)
    (encode .lsrAcc = [0x4A] ∧ ∃ t, exec .lsrAcc s = .next t ∧ Retired 1 s t ∧ ImpliedOnly s t ∧
      Registers (lsr s.a) s.x s.y s.sp t ∧
      t.p = { s.p with z := decide (lsr s.a = 0), n := (lsr s.a).getLsbD 7, c := out s.a }) ∧
    (∀ f ∈ lsrForms m, encode f.2 = f.1 :: m.bytes ∧ ∃ t, exec f.2 s = .next t ∧
      ReadModifyWrite m (lsr (s.modifyOld m)) s t ∧ Registers s.a s.x s.y s.sp t ∧
      t.p = { s.p with z := decide (lsr (s.modifyOld m) = 0), n := (lsr (s.modifyOld m)).getLsbD 7,
                       c := out (s.modifyOld m) }) ∧
    (encode .rorAcc = [0x6A] ∧ ∃ t, exec .rorAcc s = .next t ∧ Retired 1 s t ∧ ImpliedOnly s t ∧
      Registers (ror s.a) s.x s.y s.sp t ∧
      t.p = { s.p with z := decide (ror s.a = 0), n := (ror s.a).getLsbD 7, c := out s.a }) ∧
    (∀ f ∈ rorForms m, encode f.2 = f.1 :: m.bytes ∧ ∃ t, exec f.2 s = .next t ∧
      ReadModifyWrite m (ror (s.modifyOld m)) s t ∧ Registers s.a s.x s.y s.sp t ∧
      t.p = { s.p with z := decide (ror (s.modifyOld m) = 0), n := (ror (s.modifyOld m)).getLsbD 7,
                       c := out (s.modifyOld m) })

/-- For each of BPL BMI BVC BVS BCC BCS BNE BEQ, every offset and every state: pc becomes (pc + 2 + offset) mod 65536 if
its condition holds and (pc + 2) mod 65536 if not; no register, flag or byte of memory changes; a taken branch makes
the dummy reads of R375, one more when the target is on another page. (R211, R212, R213, R214, R215, R216, R217,
R218; stated.) -/
def Obligations.Branches : Prop :=
  ∀ f ∈ branchForms, ∀ (r : Byte) (s : State),
    let target : Int := if f.taken s.p then ((s.pc.toNat : Int) + 2 + r.toInt) % 65536 else (s.pc.toNat + 2) % 65536
    encode (f.branch r) = [f.opcode, r] ∧ ∃ t, exec (f.branch r) s = .next t ∧
      (t.pc.toNat : Int) = target ∧ t.iPoll = s.p.i ∧ t.p = s.p ∧ Registers s.a s.x s.y s.sp t ∧ NoStore s t ∧
      SameTraffic (s.readCycles (if f.taken s.p then
        if hiByte t.pc = hiByte (s.pc + 2) then [s.pc + 2]
        else [s.pc + 2, wordOf (loByte t.pc) (hiByte (s.pc + 2))] else [])) t

/-- For every operand w and state: JMP w puts w in pc. JMP (w) puts in pc the word whose low byte is stored at w and
whose high byte is stored at the address with the same high byte as w and low byte one more modulo 256 (where storage
answers; else what the bus returns). No register, flag or byte of memory changes. (R219, R220; stated.) -/
def Obligations.Jumps : Prop :=
  ∀ (w : Word) (s : State),
    let second : Word := BitVec.ofNat 16 (w.toNat / 256 * 256 + (w.toNat + 1) % 256)
    (encode (.jmpAbs w) = [0x4C, loByte w, hiByte w] ∧ ∃ t, exec (.jmpAbs w) s = .next t ∧
      t.pc = w ∧ t.iPoll = s.p.i ∧ t.p = s.p ∧ Registers s.a s.x s.y s.sp t ∧ NoStore s t ∧ SameTraffic s t) ∧
    (encode (.jmpInd w) = [0x6C, loByte w, hiByte w] ∧ ∃ t, exec (.jmpInd w) s = .next t ∧
      t.pc = wordOf (s.busRead w) ((s.readCycle w).busRead second) ∧
      (∀ lo hi, s.byteAt w = some lo → s.byteAt second = some hi → t.pc = wordOf lo hi) ∧
      t.iPoll = s.p.i ∧ t.p = s.p ∧ Registers s.a s.x s.y s.sp t ∧ NoStore s t ∧
      SameTraffic (s.readCycles [w, second]) t)

/-- For every operand w and state: the high and low byte of pc + 2 are stored at $0100 + S and $0100 + (S - 1 mod 256), S
drops by two, pc is the word of w's low byte and the byte then stored at pc + 2 (the operand's high byte, unless a
push changed it). No other register, no flag and no other byte of memory changes; the bus cycles are those of R376.
(R221; stated.) -/
def Obligations.JumpToSubroutine : Prop :=
  ∀ (w : Word) (s : State),
    encode (.jsrAbs w) = [0x20, loByte w, hiByte w] ∧ ∃ t, exec (.jsrAbs w) s = .next t ∧
      t.byteAt (stackAddress s.sp) = some (hiByte (s.pc + 2)) ∧
      t.byteAt (stackAddress (s.sp - 1)) = some (loByte (s.pc + 2)) ∧
      SameMemoryBut [stackAddress s.sp, stackAddress (s.sp - 1)] s t ∧
      (∀ hi, t.byteAt (s.pc + 2) = some hi → t.pc = wordOf (loByte w) hi) ∧
      Registers s.a s.x s.y (s.sp - 2) t ∧ t.p = s.p ∧ t.iPoll = s.p.i ∧ SameDevices s t ∧ SamePins s t ∧
      t.bus = .read (s.pc + 2) :: .write (stackAddress (s.sp - 1)) (loByte (s.pc + 2)) ::
        .write (stackAddress s.sp) (hiByte (s.pc + 2)) :: .read (stackAddress s.sp) :: s.bus

/-- For every state, with lo and hi the bytes at $0100 + (S + 1) and $0100 + (S + 2) modulo 256: pc becomes {hi, lo} + 1
modulo 65536 and S rises by two; no other register, no flag and no byte of memory changes; the bus makes two dummy
reads, two pulls and a dummy read of the pulled address. (R222; stated.) -/
def Obligations.ReturnFromSubroutine : Prop :=
  ∀ (s : State) (lo hi : Byte), s.byteAt (stackAddress (s.sp + 1)) = some lo →
    s.byteAt (stackAddress (s.sp + 2)) = some hi →
    encode .rts = [0x60] ∧ ∃ t, exec .rts s = .next t ∧
      t.pc.toNat = (hi.toNat * 256 + lo.toNat + 1) % 65536 ∧ Registers s.a s.x s.y (s.sp + 2) t ∧
      t.p = s.p ∧ t.iPoll = s.p.i ∧ NoStore s t ∧
      SameTraffic (s.readCycles [s.pc + 1, stackAddress s.sp, stackAddress (s.sp + 1), stackAddress (s.sp + 2),
        wordOf lo hi]) t

/-- For every state: each of CLC, SEC, CLD, SED, CLV writes its one flag and leaves the other five; the documented NOP
and the six undocumented one-byte NOPs leave all flags; pc moves by one, one dummy read is made, every register and
byte of memory is unchanged. The undocumented opcodes are admitted (log 1). (rests on R230, R231, R234, R235, R236,
R237, R264, 45_flag_system.md; derived.) -/
def Obligations.FlagInstructionsAndNops : Prop :=
  ∀ s : State,
    (encode .clc = [0x18] ∧ ∃ t, exec .clc s = .next t ∧ Retired 1 s t ∧ ImpliedOnly s t ∧
      Registers s.a s.x s.y s.sp t ∧ t.p = { s.p with c := false }) ∧
    (encode .sec = [0x38] ∧ ∃ t, exec .sec s = .next t ∧ Retired 1 s t ∧ ImpliedOnly s t ∧
      Registers s.a s.x s.y s.sp t ∧ t.p = { s.p with c := true }) ∧
    (encode .cld = [0xD8] ∧ ∃ t, exec .cld s = .next t ∧ Retired 1 s t ∧ ImpliedOnly s t ∧
      Registers s.a s.x s.y s.sp t ∧ t.p = { s.p with d := false }) ∧
    (encode .sed = [0xF8] ∧ ∃ t, exec .sed s = .next t ∧ Retired 1 s t ∧ ImpliedOnly s t ∧
      Registers s.a s.x s.y s.sp t ∧ t.p = { s.p with d := true }) ∧
    (encode .clv = [0xB8] ∧ ∃ t, exec .clv s = .next t ∧ Retired 1 s t ∧ ImpliedOnly s t ∧
      Registers s.a s.x s.y s.sp t ∧ t.p = { s.p with v := false }) ∧
    ∀ f ∈ nopForms, encode f.2 = [f.1] ∧ ∃ t, exec f.2 s = .next t ∧ Retired 1 s t ∧ ImpliedOnly s t ∧
      Registers s.a s.x s.y s.sp t ∧ t.p = s.p

/-- For every state: CLI clears and SEI sets I and nothing else of the flags; i_poll is the I before; pc moves by one,
one dummy read is made, every register and byte of memory is unchanged. (rests on R232, R233, R42, 45_flag_system.md;
derived.) -/
def Obligations.InterruptDisableInstructions : Prop :=
  ∀ s : State,
    (encode .cli = [0x58] ∧ ∃ t, exec .cli s = .next t ∧ t.pc = s.pc + 1 ∧ t.iPoll = s.p.i ∧ ImpliedOnly s t ∧
      Registers s.a s.x s.y s.sp t ∧ t.p = { s.p with i := false }) ∧
    (encode .sei = [0x78] ∧ ∃ t, exec .sei s = .next t ∧ t.pc = s.pc + 1 ∧ t.iPoll = s.p.i ∧ ImpliedOnly s t ∧
      Registers s.a s.x s.y s.sp t ∧ t.p = { s.p with i := true })

/-- For every state: after a read of the padding byte, the high and low byte of pc + 2 and the flag byte with bits 5 and
4 set (I as it was) are pushed, S drops by three, I and i_poll are set, pc is the word at $FFFE, or at $FFFA if an
NMI is pending, which it consumes; A, X, Y, the other flags and every other byte of memory are unchanged. (rests on
R238, R314, R310, 45_flag_system.md; derived.) -/
def Obligations.BreakEntersHandler : Prop :=
  ∀ s : State, encode .brk = [0x00] ∧ ∃ t, exec .brk s = .next t ∧
    Entered (s.pc + 2) true (if s.nmiPending then 0xFFFA else 0xFFFE) [.read (s.pc + 1)] s t

/-- For every state, with v, lo, hi the bytes at $0100 + (S + 1), (S + 2), (S + 3) modulo 256: the flags are bits 7, 6,
3, 2, 1, 0 of v, pc is {hi, lo} exactly, S rises by three, i_poll is the restored I; A, X, Y and every byte of memory
are unchanged; the bus makes two dummy reads and three pulls. (rests on R239, R313, 45_flag_system.md; derived.) -/
def Obligations.ReturnFromInterrupt : Prop :=
  ∀ (s : State) (v lo hi : Byte), s.byteAt (stackAddress (s.sp + 1)) = some v →
    s.byteAt (stackAddress (s.sp + 2)) = some lo → s.byteAt (stackAddress (s.sp + 3)) = some hi →
    encode .rti = [0x40] ∧ ∃ t, exec .rti s = .next t ∧ t.pc = wordOf lo hi ∧
      t.p = { n := v.getLsbD 7, v := v.getLsbD 6, d := v.getLsbD 3, i := v.getLsbD 2, z := v.getLsbD 1,
              c := v.getLsbD 0 } ∧
      t.iPoll = v.getLsbD 2 ∧ Registers s.a s.x s.y (s.sp + 3) t ∧ NoStore s t ∧
      SameTraffic (s.readCycles [s.pc + 1, stackAddress s.sp, stackAddress (s.sp + 1), stackAddress (s.sp + 2),
        stackAddress (s.sp + 3)]) t

/-- For every form and state, with old the byte at ea: SLO stores 2*old mod 256 and ORs it into A; RLA stores 2*old + C
mod 256 and ANDs it into A; SRE stores old/2 and exclusive-ORs it into A; the old value is written back first; C is
the bit shifted out, Z and N from the new A; V, I, D, X, Y, S and every other byte unchanged. That an APU register
field keeps the byte last written is the model's choice (log 18). The undocumented opcodes are admitted (log 1).
(rests on R251, R252, R253, R118, 46_unofficial.md; derived.) -/
def Obligations.ShiftAndLogicCombinations : Prop :=
  ∀ (m : Mode) (s : State),
    let old := s.modifyOld m
    let asl : Byte := BitVec.ofNat 8 (2 * old.toNat)
    let rol : Byte := BitVec.ofNat 8 (2 * old.toNat + s.p.c.toNat)
    let lsr : Byte := BitVec.ofNat 8 (old.toNat / 2)
    (∀ f ∈ sloForms m, encode f.2 = f.1 :: m.bytes ∧ ∃ t, exec f.2 s = .next t ∧ ReadModifyWrite m asl s t ∧
      Registers (s.a ||| asl) s.x s.y s.sp t ∧ t.p = 
      { s.p with z := decide (s.a ||| asl = 0), n := (s.a ||| asl).getLsbD 7, c := decide (128 ≤ old.toNat) }) ∧
    (∀ f ∈ rlaForms m, encode f.2 = f.1 :: m.bytes ∧ ∃ t, exec f.2 s = .next t ∧ ReadModifyWrite m rol s t ∧
      Registers (s.a &&& rol) s.x s.y s.sp t ∧ t.p = 
      { s.p with z := decide (s.a &&& rol = 0), n := (s.a &&& rol).getLsbD 7, c := decide (128 ≤ old.toNat) }) ∧
    (∀ f ∈ sreForms m, encode f.2 = f.1 :: m.bytes ∧ ∃ t, exec f.2 s = .next t ∧ ReadModifyWrite m lsr s t ∧
      Registers (s.a ^^^ lsr) s.x s.y s.sp t ∧ t.p = 
      { s.p with z := decide (s.a ^^^ lsr = 0), n := (s.a ^^^ lsr).getLsbD 7, c := decide (old.toNat % 2 = 1) })

/-- For every form and state, with old the byte at ea: RRA stores old/2 + 128*C and adds it to A with old's bit 0 as
carry in; DCP stores old - 1 and compares A with it; ISC stores old + 1 and subtracts it from A with the incoming C;
results modulo 256, the old value written back first; C, V, Z, N as of ADC, CMP (V unchanged) and SBC; I, D, X, Y, S
and every other byte unchanged. That an APU register field keeps the byte last written is the model's choice (log
18). The undocumented opcodes are admitted (log 1). (rests on R254, R257, R258, R118, 46_unofficial.md; derived.) -/
def Obligations.ArithmeticCombinations : Prop :=
  ∀ (m : Mode) (s : State),
    let old := s.modifyOld m
    let ror : Byte := BitVec.ofNat 8 (old.toNat / 2 + 128 * s.p.c.toNat)
    let sum := s.a.toNat + ror.toNat + old.toNat % 2
    let added : Byte := BitVec.ofNat 8 sum
    let addedSigned := s.a.toInt + ror.toInt + ((old.toNat % 2 : Nat) : Int)
    let dec : Byte := BitVec.ofNat 8 (old.toNat + 255)
    let inc : Byte := BitVec.ofNat 8 (old.toNat + 1)
    let borrow : Nat := if s.p.c then 0 else 1
    let subbed : Byte := BitVec.ofNat 8 (s.a.toNat + 256 - inc.toNat - borrow)
    let subbedSigned := s.a.toInt - inc.toInt - (borrow : Int)
    (∀ f ∈ rraForms m, encode f.2 = f.1 :: m.bytes ∧ ∃ t, exec f.2 s = .next t ∧ ReadModifyWrite m ror s t ∧
      Registers added s.x s.y s.sp t ∧
      t.p = { s.p with c := decide (255 < sum), v := decide (addedSigned < -128 ∨ 127 < addedSigned),
                       z := decide (added = 0), n := added.getLsbD 7 }) ∧
    (∀ f ∈ dcpForms m, encode f.2 = f.1 :: m.bytes ∧ ∃ t, exec f.2 s = .next t ∧ ReadModifyWrite m dec s t ∧
      Registers s.a s.x s.y s.sp t ∧
      t.p = { s.p with c := decide (dec.toNat ≤ s.a.toNat), z := decide (s.a = dec), n := (s.a - dec).getLsbD 7 }) ∧
    (∀ f ∈ iscForms m, encode f.2 = f.1 :: m.bytes ∧ ∃ t, exec f.2 s = .next t ∧ ReadModifyWrite m inc s t ∧
      Registers subbed s.x s.y s.sp t ∧
      t.p = { s.p with c := decide (inc.toNat + borrow ≤ s.a.toNat),
                       v := decide (subbedSigned < -128 ∨ 127 < subbedSigned),
                       z := decide (subbed = 0), n := subbed.getLsbD 7 })

/-- For every form and state: LAX puts the operand in A and X; LAS puts the operand AND S in A, X and S; Z and N follow
that byte; the other flags, Y and memory unchanged; pc, i_poll and the operand's bus cycles as of any read. The
undocumented opcodes are admitted (log 1). (R256, R265; stated.) -/
def Obligations.LoadCombinations : Prop :=
  ∀ (o : Operand) (s : State),
    let v := s.operandValue o
    let w := v &&& s.sp
    (∀ f ∈ laxForms o, encode f.2 = f.1 :: o.bytes ∧ ∃ t, exec f.2 s = .next t ∧ ReadOnly o s t ∧
      Registers v v s.y s.sp t ∧ t.p = { s.p with z := decide (v = 0), n := (v).getLsbD 7 }) ∧
    (∀ f ∈ lasForms o, encode f.2 = f.1 :: o.bytes ∧ ∃ t, exec f.2 s = .next t ∧ ReadOnly o s t ∧
      Registers w w s.y w t ∧ t.p = { s.p with z := decide (w = 0), n := (w).getLsbD 7 })

/-- For every immediate n and state, with t = A AND n: ANC leaves t in A and copies N to C; ALR leaves t/2, C is t's bit
0; ARR leaves t/2 + 128*C, C is bit 6 and V bit 6 exclusive-or bit 5 of the result whatever D is; AXS leaves (A AND
X) - n in X with C, Z, N as a compare of A AND X with n and A unchanged. Z and N follow the result; flags not named,
the other registers and memory unchanged. The undocumented opcodes are admitted (log 1). (R259, R260, R261, R262;
stated.) -/
def Obligations.ImmediateCombinations : Prop :=
  ∀ (n : Byte) (s : State),
    let anc := s.a &&& n
    let alr : Byte := BitVec.ofNat 8 (anc.toNat / 2)
    let arr : Byte := BitVec.ofNat 8 (anc.toNat / 2 + 128 * s.p.c.toNat)
    let axs : Byte := BitVec.ofNat 8 ((s.a &&& s.x).toNat + 256 - n.toNat)
    (encode (.ancImm0B n) = [0x0B, n] ∧ ∃ t, exec (.ancImm0B n) s = .next t ∧ ReadOnly (.imm n) s t ∧
      Registers anc s.x s.y s.sp t ∧
      t.p = { s.p with z := decide (anc = 0), n := anc.getLsbD 7, c := anc.getLsbD 7 }) ∧
    (encode (.ancImm2B n) = [0x2B, n] ∧ ∃ t, exec (.ancImm2B n) s = .next t ∧ ReadOnly (.imm n) s t ∧
      Registers anc s.x s.y s.sp t ∧
      t.p = { s.p with z := decide (anc = 0), n := anc.getLsbD 7, c := anc.getLsbD 7 }) ∧
    (encode (.alrImm n) = [0x4B, n] ∧ ∃ t, exec (.alrImm n) s = .next t ∧ ReadOnly (.imm n) s t ∧
      Registers alr s.x s.y s.sp t ∧
      t.p = { s.p with z := decide (alr = 0), n := alr.getLsbD 7, c := anc.getLsbD 0 }) ∧
    (encode (.arrImm n) = [0x6B, n] ∧ ∃ t, exec (.arrImm n) s = .next t ∧ ReadOnly (.imm n) s t ∧
      Registers arr s.x s.y s.sp t ∧
      t.p = { s.p with z := decide (arr = 0), n := arr.getLsbD 7, c := arr.getLsbD 6,
                       v := (arr.getLsbD 6).xor (arr.getLsbD 5) }) ∧
    (encode (.axsImm n) = [0xCB, n] ∧ ∃ t, exec (.axsImm n) s = .next t ∧ ReadOnly (.imm n) s t ∧
      Registers s.a axs s.y s.sp t ∧
      t.p = { s.p with z := decide (axs = 0), n := axs.getLsbD 7,
                       c := decide (n.toNat ≤ (s.a &&& s.x).toNat) })

/-- For each of the twenty-one undocumented NOPs with an operand and every state: the encoding is the opcode and the
operand bytes, the operand's bus cycles are made, pc is past the instruction, and every register, flag, byte of
memory, device and pin is unchanged. $82, $C2 and $E2 are taken as NOPs like the others (log 24). The undocumented
opcodes are admitted (log 1). (rests on R264, 46_unofficial.md; derived.) -/
def Obligations.ReadingNops : Prop :=
  ∀ (o : Operand) (s : State), ∀ f ∈ nopReadForms o,
    encode f.2 = f.1 :: o.bytes ∧ ∃ t, exec f.2 s = .next t ∧ ReadOnly o s t ∧ Registers s.a s.x s.y s.sp t ∧ t.p = s.p

/-- The spec gives ANE and LXA no fixed result and has a model refuse them (R250), which the step does; their meaning in
exec, which a step reaches only under the model's own setting runUnstable, leaves a free value (log 2). For every
immediate and state: A (ANE), A and X (LXA) become the environment's next byte, whatever it is, Z and N follow it, pc
moves by two; every other register, flag and byte of memory is unchanged. (rests on R266, R267, 46_unofficial.md;
derived.) -/
def Obligations.UnstableRegisterOpcodes : Prop :=
  ∀ (n : Byte) (s : State),
    let v := s.drawValue
    (encode (.aneImm n) = [0x8B, n] ∧ ∃ t, exec (.aneImm n) s = .next t ∧ Retired 2 s t ∧ NoStore s t ∧
      SameTraffic s.drawn t ∧ Registers v s.x s.y s.sp t ∧
      t.p = { s.p with z := decide (v = 0), n := v.getLsbD 7 }) ∧
    (encode (.lxaImm n) = [0xAB, n] ∧ ∃ t, exec (.lxaImm n) s = .next t ∧ Retired 2 s t ∧ NoStore s t ∧
      SameTraffic s.drawn t ∧ Registers v v s.y s.sp t ∧
      t.p = { s.p with z := decide (v = 0), n := v.getLsbD 7 })

/-- The spec gives these no fixed result and has a model refuse them (R250), which the step does; their meaning in exec,
which a step reaches only under the model's own setting runUnstable, leaves free values (log 2). For every form and
state one byte, whatever it is, is stored at ea, or, on a page cross, at an address with the low byte of ea and any
high byte (log 29); no other byte of memory, no flag and no register changes, but that TAS leaves any byte in S; pc
moves past the instruction. (rests on R268, R269, R270, R271, 46_unofficial.md; derived.) -/
def Obligations.UnstableStores : Prop :=
  ∀ (m : Mode) (s : State),
    (∀ f ∈ shaForms m ++ shxForms m ++ shyForms m, encode f.2 = f.1 :: m.bytes ∧
      ∃ t w v, exec f.2 s = .next t ∧ Retired m.length s t ∧ (s.pageCross m = false → w = s.ea m) ∧
        loByte w = loByte (s.ea m) ∧ StoredByte w v s t ∧ t.cart = s.cart ∧ SamePins s t ∧ t.p = s.p ∧
        t.bus = .write w v :: (s.addressed m .write).bus ∧ Registers s.a s.x s.y s.sp t) ∧
    (∀ f ∈ tasForms m, encode f.2 = f.1 :: m.bytes ∧
      ∃ t w v, exec f.2 s = .next t ∧ Retired m.length s t ∧ (s.pageCross m = false → w = s.ea m) ∧
        loByte w = loByte (s.ea m) ∧ StoredByte w v s t ∧ t.cart = s.cart ∧ SamePins s t ∧ t.p = s.p ∧
        t.bus = .write w v :: (s.addressed m .write).bus ∧ Registers s.a s.x s.y s.drawValue t)

/-- For each of the twelve JAM opcodes and every state exec answers the state with jammed set, the dummy read of pc + 1
made and nothing else changed. While jammed and no reset is due or made by the pin events, each step leaves
registers, flags, pc, memory, devices and the bus history as they are, whatever /IRQ and /NMI do. R276 leaves pc and
every register unspecified and does not model the jammed bus: that they keep their values and that the bus history
stays as it is are the model's choices (log 3), and so is that the undocumented JAM is admitted (log 1). (rests on
R276, R43, R320, 46_unofficial.md; derived.) -/
def Obligations.JamLocksUntilReset : Prop :=
  (∀ f ∈ jamForms, ∀ s : State, encode f.2 = [f.1] ∧ ∃ t, exec f.2 s = .next t ∧ t.jammed = true ∧
    t = { s.idle with jammed := true }) ∧
  ∀ s : State, s.environment.jammed = true → s.environment.resetPending = false →
    ∃ t, step s = .next t ∧ t.jammed = true ∧ Registers s.a s.x s.y s.sp t ∧ t.p = s.p ∧ t.pc = s.pc ∧
      t.iPoll = s.iPoll ∧ SameMemory s t ∧ SameDevices s t ∧ SameTraffic s t

/-- Let e be s after the environment's pin events. If /RST is high and does not fall in the step, no reset is due, the
CPU is not jammed and an NMI is pending, the step is the NMI entry: two dummy reads at pc, pc and the flags (B = 0,
bit 5 = 1, I as it was) pushed, S down by three, I and i_poll set, nmi_pending cleared, pc from $FFFA; a low /IRQ
stays pending; nothing else changes. (rests on R310, R307, R308, R304, 60_exceptions.md; derived.) -/
def Obligations.NmiEntry : Prop :=
  ∀ s : State, s.environment.rstLine = true → s.environment.rstMid = none → s.environment.resetPending = false →
    s.environment.jammed = false → s.environment.nmiPending = true →
    ∃ t, step s = .next t ∧ t.nmiMid = false ∧
      Entered s.environment.pc false 0xFFFA [.read s.environment.pc, .read s.environment.pc] s.environment t

/-- Let e be s after the environment's pin events, with /RST high to the end of the step, no reset due, not jammed, no
NMI pending. If /IRQ is low and i_poll is 0 the step is the IRQ entry: two dummy reads, pc and flags pushed with B =
0, S down by three, I and i_poll set, /IRQ left as it is, pc from $FFFE (from $FFFA if /NMI falls inside the entry,
log 11, log 25). If /IRQ is high or i_poll is 1 the step is an instruction (an unstable opcode is refused, R250).
(rests on R310, R306, R308, R303, 60_exceptions.md; derived.) -/
def Obligations.IrqEntry : Prop :=
  ∀ s : State, s.environment.rstLine = true → s.environment.rstMid = none → s.environment.resetPending = false →
    s.environment.jammed = false → s.environment.nmiPending = false →
    (s.environment.irqLine = false → s.environment.iPoll = false →
      ∃ t, step s = .next t ∧ t.nmiMid = false ∧
        Entered s.environment.pc false (if s.environment.nmiMid then 0xFFFA else 0xFFFE)
          [.read s.environment.pc, .read s.environment.pc] s.environment t) ∧
    (s.environment.irqLine = true ∨ s.environment.iPoll = true →
      step s = if s.environment.busRead s.environment.pc ∈ unstableOpcodes
        then .refused (.declined (s.environment.busRead s.environment.pc))
        else exec s.environment.latchNmi.fetch.1 s.environment.latchNmi.fetch.2)

/-- Let e be s after the environment's pin events. If /RST is high and does not fall again in the step and a reset is
due, whatever jam, NMI or IRQ stand, the step leaves A, X, Y, C, Z, D, V, N and every byte of memory as they were, S
down by three modulo 256, I and i_poll set, nmi_pending and jammed cleared, pc the word at $FFFC, and seven read
cycles in the order of R376. The values are those of R50 and R351, the priority that of R308 and R320. That
nmi_pending is clear even where the environment places a fall of /NMI inside this step is the model's choice (log
31). (rests on R50, R308, R320, R351, R376, 10_state.md, 60_exceptions.md, 70_reset_and_hazards.md; derived.) -/
def Obligations.ResetSequence : Prop :=
  ∀ s : State, s.environment.rstLine = true → s.environment.rstMid = none → s.environment.resetPending = true →
    let e := s.environment
    ∃ t, step s = .next t ∧ Registers e.a e.x e.y (e.sp - 3) t ∧ t.p = { e.p with i := true } ∧ t.iPoll = true ∧
      t.nmiPending = false ∧ t.jammed = false ∧ t.resetPending = false ∧
      (∀ lo hi, e.byteAt 0xFFFC = some lo → e.byteAt 0xFFFD = some hi → t.pc = wordOf lo hi) ∧
      SameMemory e t ∧ t.mem = e.mem ∧ t.cart = e.cart ∧
      t.irqLine = e.irqLine ∧ t.nmiLine = e.nmiLine ∧ t.rstLine = true ∧ t.schedule = e.schedule ∧
      t.bus = [.read 0xFFFD, .read 0xFFFC, .read (stackAddress (e.sp - 2)), .read (stackAddress (e.sp - 1)),
        .read (stackAddress e.sp), .read e.pc, .read e.pc] ++ e.bus

/-- For every state and byte v: after a write of v to a register $4010 to $4013, $4015 or $4017 and the reset sequence,
$4011 holds bit 0 of v, $4015 holds 0, and $4010, $4012, $4013 and $4017 hold v; the triangle phase is 0, and by
REVISION = 2A03G the frame counter LFSR is $7FFF (the model's choice of revision, log 27). That a register field
holds the byte last written is the model's choice (log 18); the rows the spec marks with a question mark are free
values and not stated. The $4016 output latch keeps its bits: the model's choice (log 30). (rests on R48, R353,
10_state.md; derived.) -/
def Obligations.ResetActsOnApu : Prop :=
  ∀ (s : State) (v : Byte),
    (s.writeCycle 0x4011 v).resetSequence.apu.dmcDirectLoad = v &&& 1 ∧
    (s.writeCycle 0x4015 v).resetSequence.apu.status = 0 ∧
    (s.writeCycle 0x4010 v).resetSequence.apu.dmcFlagsRate = v ∧
    (s.writeCycle 0x4012 v).resetSequence.apu.dmcSampleAddress = v ∧
    (s.writeCycle 0x4013 v).resetSequence.apu.dmcSampleLength = v ∧
    (s.writeCycle 0x4017 v).resetSequence.apu.frameCounter = v ∧
    s.resetSequence.apu.trianglePhase = 0 ∧ s.resetSequence.apu.frameLfsr = 0x7FFF ∧
    s.resetSequence.outLatch = s.outLatch

/-- Driving /IRQ sets its level and nothing else. Driving /NMI low requests an NMI exactly when the line was high;
holding it low or raising it does not. Releasing /RST from low makes the reset due; holding it high or low does not.
While /RST is low a step executes nothing (log 13). If /RST falls after k bus cycles of a step whose whole would be
u, the step answers u with /RST low where u takes no more than k cycles; else the bus history grows by the first k of
its cycles, each byte of memory is what those cycles wrote last, or as it was, A, X, Y, pc and i_poll are as before,
S has moved by the pushes and pulls made, a fall of /NMI is latched, the other pins and the jam stand, and of the
flags only C may have changed, but in RTI. That rstMid places such a fall, and what it leaves in the registers and
flags, is the model's choice (log 12: DESIGN CHOICE and DEDUCED): that A, X, Y and pc are kept, that I and i_poll are
kept even in an entry or a reset sequence cut after the line of R310 or R351 that sets them, that of the other flags
only C is free, and how far S has moved; R351 itself says only that nothing is completed or undone and that writes
made stay. A step that would refuse its opcode (R250) still does, unless /RST falls before the fetch. (rests on R40,
R41, R44, R303, R304, R305, R350, R351; derived.) -/
def Obligations.PinEventsAct : Prop :=
  (∀ (s : State) (b : Bool), s.pin (.irq b) = { s with irqLine := b }) ∧
  (∀ s : State, (s.pin (.nmi false)).nmiLine = false ∧ (s.pin (.nmi true)).nmiLine = true ∧
    (s.nmiLine = true → (s.pin (.nmi false)).nmiPending = true) ∧
    (s.nmiLine = false → (s.pin (.nmi false)).nmiPending = s.nmiPending) ∧
    (s.pin (.nmi true)).nmiPending = s.nmiPending) ∧
  (∀ s : State, (s.pin (.rst true)).rstLine = true ∧ (s.pin (.rst false)).rstLine = false ∧
    (s.rstLine = false → (s.pin (.rst true)).resetPending = true) ∧
    (s.rstLine = true → (s.pin (.rst true)).resetPending = s.resetPending) ∧
    (s.pin (.rst false)).resetPending = s.resetPending) ∧
  (∀ (s : State) (k : Nat), s.pin (.rstMid k) = { s with rstMid := if s.rstLine then some k else s.rstMid }) ∧
  (∀ s : State, s.environment.rstLine = false → step s = .next { s.environment.latchNmi with
    rstLine := false
    rstMid := none }) ∧
  (∀ (s : State) (k : Nat) (r : Refusal), s.environment.rstMid = some k →
    { s.environment with rstMid := none }.boundary = .refused r → step s =
      if k = 0 then .next { s.environment.latchNmi with rstLine := false, rstMid := none } else .refused r) ∧
  ∀ (s u : State) (k : Nat), s.environment.rstMid = some k →
    let e := { s.environment with rstMid := none }
    e.boundary = .next u →
    ∃ t, step s = .next t ∧ t.rstLine = false ∧ t.rstMid = none ∧
      ((e.cyclesTo u).length ≤ k → t = { u with rstLine := false, rstMid := none }) ∧
      (k < (e.cyclesTo u).length →
        t.bus = ((e.cyclesTo u).take k).reverse ++ e.bus ∧
        (∀ a, t.byteAt a = e.storedBy ((e.cyclesTo u).take k) a) ∧
        Registers e.a e.x e.y (e.stackAfter k) t ∧ t.pc = e.pc ∧ t.iPoll = e.iPoll ∧
        (e.entering = true ∨ e.busRead e.pc ≠ 0x40 → { t.p with c := e.p.c } = e.p) ∧
        t.cart = e.cart ∧ t.jammed = e.jammed ∧ t.resetPending = e.resetPending ∧ t.irqLine = e.irqLine ∧
        t.nmiLine = e.nmiLine ∧ t.nmiPending = (e.nmiPending || e.nmiMid) ∧ t.nmiMid = false ∧
        t.schedule = e.schedule)

/-- For every state s and either vector, let t be the state after the NMI or IRQ entry. From every state u whose S is t's
and whose three stack bytes above S are t's, however A, X, Y, flags and other memory have changed, RTI answers a
state with s's pc, S and six flags and with i_poll equal to the restored I (R313), which can differ from s's i_poll
where the entry came right after SEI, CLI or PLP (R306); A, X and Y are u's. (rests on R313, R310, R311, R239,
60_exceptions.md; derived.) -/
def Obligations.InterruptThenReturnResumes : Prop :=
  ∀ (s u : State) (vec : Word), u.sp = (s.interrupt vec).sp →
    (∀ k ∈ [(1 : Byte), 2, 3], u.byteAt (stackAddress (u.sp + k)) = (s.interrupt vec).byteAt (stackAddress (u.sp + k))) →
    ∃ r, exec .rti u = .next r ∧ r.pc = s.pc ∧ r.p = s.p ∧ r.iPoll = s.p.i ∧ Registers u.a u.x u.y s.sp r ∧
      SameMemory u r

/-- For every state s and target, let t be the state after JSR. From every state u whose S is t's and whose two stack
bytes above S are t's, RTS answers a state with pc = s.pc + 3 modulo 65536 and S as in s; A, X, Y and the flags are
u's. (rests on R221, R222, R75, R76, 44_control_transfer.md; derived.) -/
def Obligations.CallThenReturnResumes : Prop :=
  ∀ (s t u : State) (w : Word), exec (.jsrAbs w) s = .next t → u.sp = t.sp →
    (∀ k ∈ [(1 : Byte), 2], u.byteAt (stackAddress (u.sp + k)) = t.byteAt (stackAddress (u.sp + k))) →
    ∃ r, exec .rts u = .next r ∧ r.pc = s.pc + 3 ∧ r.p = u.p ∧ Registers u.a u.x u.y s.sp r ∧ SameMemory u r

/-- From a state with I and i_poll set, /IRQ low, no pin event to come, nothing else due, and the bytes 58 78 stored at
pc and pc + 1: the first step runs CLI, the second runs SEI (no IRQ between them), and the third is the IRQ entry: it
pushes pc + 2 and the flags with I = 1, and leaves i_poll set, so that no further IRQ is due. (rests on R232, R42,
R306, R310, 45_flag_system.md; derived.) -/
def Obligations.CliSeiAdmitsOneIrq : Prop :=
  ∀ s : State, s.schedule = [] → s.rstLine = true → s.rstMid = none → s.resetPending = false → s.jammed = false →
    s.nmiPending = false → s.nmiMid = false → s.irqLine = false → s.p.i = true → s.iPoll = true →
    s.byteAt s.pc = some 0x58 → s.byteAt (s.pc + 1) = some 0x78 →
    ∃ t u v, step s = .next t ∧ step t = .next u ∧ step u = .next v ∧
      t.pc = s.pc + 1 ∧ t.p.i = false ∧ u.pc = s.pc + 2 ∧ u.p = s.p ∧ SameMemory s u ∧
      Entered (s.pc + 2) false 0xFFFE [.read (s.pc + 2), .read (s.pc + 2)] u v ∧
      v.byteAt (stackAddress (s.sp - 2)) = some (s.p.pack false) ∧ v.iPoll = true

end
end

