-- ==== Sys2Proof/Laws/Bits.lean ====
section
/-! SUPPORT. The byte and word helpers of Decode.lean undo each other. -/

namespace Sys2Proof

theorem wordOf_toNat (l h : Byte) : (wordOf l h).toNat = h.toNat * 256 + l.toNat := by
  simp only [wordOf, BitVec.toNat_append]
  rw [← Nat.shiftLeft_add_eq_or_of_lt l.isLt, Nat.shiftLeft_eq]

theorem loByte_toNat (w : Word) : (loByte w).toNat = w.toNat % 256 := by
  simp [loByte, BitVec.extractLsb'_toNat]

theorem hiByte_toNat (w : Word) : (hiByte w).toNat = w.toNat / 256 := by
  have := w.isLt
  simp only [hiByte, BitVec.extractLsb'_toNat, Nat.shiftRight_eq_div_pow]
  omega

@[simp] theorem loByte_wordOf (l h : Byte) : loByte (wordOf l h) = l := by
  have := l.isLt
  apply BitVec.eq_of_toNat_eq
  rw [loByte_toNat, wordOf_toNat]; omega

@[simp] theorem hiByte_wordOf (l h : Byte) : hiByte (wordOf l h) = h := by
  have := l.isLt
  apply BitVec.eq_of_toNat_eq
  rw [hiByte_toNat, wordOf_toNat]; omega

@[simp] theorem wordOf_loByte_hiByte (w : Word) : wordOf (loByte w) (hiByte w) = w := by
  apply BitVec.eq_of_toNat_eq
  rw [wordOf_toNat, loByte_toNat, hiByte_toNat]; omega

@[simp] theorem zext16_toNat (b : Byte) : (zext16 b).toNat = b.toNat := by
  have := b.isLt
  simp [zext16]
  omega

/-! Sums of the small steps of the stack pointer and the program counter. -/

@[simp] theorem byte_add_one_one (b : Byte) : b + 1#8 + 1#8 = b + 2#8 := by rw [BitVec.add_assoc]; rfl
@[simp] theorem byte_add_two_one (b : Byte) : b + 2#8 + 1#8 = b + 3#8 := by rw [BitVec.add_assoc]; rfl
@[simp] theorem byte_sub_one_one (b : Byte) : b - 1#8 - 1#8 = b - 2#8 := by bv_omega
@[simp] theorem byte_sub_two_one (b : Byte) : b - 2#8 - 1#8 = b - 3#8 := by bv_omega
@[simp] theorem byte_sub_one_add_one (b : Byte) : b - 1#8 + 1#8 = b := by bv_omega
@[simp] theorem byte_sub_two_add_one (b : Byte) : b - 2#8 + 1#8 = b - 1#8 := by bv_omega
@[simp] theorem byte_sub_two_add_two (b : Byte) : b - 2#8 + 2#8 = b := by bv_omega
@[simp] theorem byte_sub_three_add_one (b : Byte) : b - 3#8 + 1#8 = b - 2#8 := by bv_omega
@[simp] theorem byte_sub_three_add_two (b : Byte) : b - 3#8 + 2#8 = b - 1#8 := by bv_omega
@[simp] theorem byte_sub_three_add_three (b : Byte) : b - 3#8 + 3#8 = b := by bv_omega
@[simp] theorem word_add_two_one (w : Word) : w + 2#16 + 1#16 = w + 3#16 := by rw [BitVec.add_assoc]; rfl
@[simp] theorem word_add_one_one (w : Word) : w + 1#16 + 1#16 = w + 2#16 := by rw [BitVec.add_assoc]; rfl

end Sys2Proof
end

