-- ==== Sys2Proof/Laws/Flags.lean ====
section
/-! SUPPORT. The flag and shift computations of Machine/Flags.lean as arithmetic on numbers. -/

namespace Sys2Proof.Machine

theorem byte_toInt (a : Byte) : a.toInt = if a.toNat < 128 then (a.toNat : Int) else (a.toNat : Int) - 256 := by
  revert a; decide

theorem byte_bit7 (a : Byte) : a.getLsbD 7 = decide (128 ≤ a.toNat) := by revert a; decide

theorem byte_bit0 (a : Byte) : a.getLsbD 0 = decide (a.toNat % 2 = 1) := by revert a; decide

theorem and80_ne_zero (a : Byte) : a &&& 0x80 ≠ 0 ↔ a.getLsbD 7 = true := by revert a; decide

/-- The bit formula of R170 for V says that the signed sum does not fit a byte. -/
theorem overflow_iff (a m r : Byte) (c : Nat) (hc : c ≤ 1) (hr : r.toNat = (a.toNat + m.toNat + c) % 256) :
    (a.toInt + m.toInt + c < -128 ∨ 127 < a.toInt + m.toInt + c) ↔ (a ^^^ r) &&& (m ^^^ r) &&& 0x80 ≠ 0 := by
  rw [and80_ne_zero, BitVec.getLsbD_and, BitVec.getLsbD_xor, BitVec.getLsbD_xor, byte_bit7 a, byte_bit7 m, byte_bit7 r,
    byte_toInt, byte_toInt, hr]
  have := a.isLt
  have := m.isLt
  by_cases ha : 128 ≤ a.toNat <;> by_cases hm : 128 ≤ m.toNat <;>
    by_cases h : 128 ≤ (a.toNat + m.toNat + c) % 256 <;>
    simp [ha, hm, h, Nat.not_lt.2, Nat.lt_of_not_le] <;> omega

theorem complement_toNat (m : Byte) : (m ^^^ 0xFF).toNat = 255 - m.toNat := by revert m; decide

theorem complement_toInt (m : Byte) : (m ^^^ 0xFF).toInt = -1 - m.toInt := by revert m; decide

theorem aslValue_eq (b : Byte) (p : Flags) : aslValue b p = BitVec.ofNat 8 (2 * b.toNat) := by
  revert b; simp only [aslValue]; decide

theorem rolValue_eq (b : Byte) (p : Flags) : rolValue b p = BitVec.ofNat 8 (2 * b.toNat + p.c.toNat) := by
  simp only [rolValue]; generalize p.c = c; revert b c; decide

theorem lsrValue_eq (b : Byte) (p : Flags) : lsrValue b p = BitVec.ofNat 8 (b.toNat / 2) := by
  revert b; simp only [lsrValue]; decide

theorem rorValue_eq (b : Byte) (p : Flags) : rorValue b p = BitVec.ofNat 8 (b.toNat / 2 + 128 * p.c.toNat) := by
  simp only [rorValue]; generalize p.c = c; revert b c; decide

theorem incValue_eq (b : Byte) (p : Flags) : incValue b p = BitVec.ofNat 8 (b.toNat + 1) := by
  apply BitVec.eq_of_toNat_eq; simp [incValue]

theorem decValue_eq (b : Byte) (p : Flags) : decValue b p = BitVec.ofNat 8 (b.toNat + 255) := by
  apply BitVec.eq_of_toNat_eq; simp [decValue, BitVec.toNat_sub]; omega

end Sys2Proof.Machine
end

