-- ==== Sys2Proof/Laws/State.lean ====
section
/-! SUPPORT. The fields after each state update of Machine/Ops.lean: one lemma per field per update, true by rfl. -/

namespace Sys2Proof.Machine

variable (s : State)

@[simp] theorem readCycle_a (b : Word) : (s.readCycle b).a = s.a := rfl
@[simp] theorem readCycle_x (b : Word) : (s.readCycle b).x = s.x := rfl
@[simp] theorem readCycle_y (b : Word) : (s.readCycle b).y = s.y := rfl
@[simp] theorem readCycle_sp (b : Word) : (s.readCycle b).sp = s.sp := rfl
@[simp] theorem readCycle_pc (b : Word) : (s.readCycle b).pc = s.pc := rfl
@[simp] theorem readCycle_p (b : Word) : (s.readCycle b).p = s.p := rfl
@[simp] theorem readCycle_iPoll (b : Word) : (s.readCycle b).iPoll = s.iPoll := rfl
@[simp] theorem readCycle_jammed (b : Word) : (s.readCycle b).jammed = s.jammed := rfl
@[simp] theorem readCycle_irqLine (b : Word) : (s.readCycle b).irqLine = s.irqLine := rfl
@[simp] theorem readCycle_nmiLine (b : Word) : (s.readCycle b).nmiLine = s.nmiLine := rfl
@[simp] theorem readCycle_nmiPending (b : Word) : (s.readCycle b).nmiPending = s.nmiPending := rfl
@[simp] theorem readCycle_nmiMid (b : Word) : (s.readCycle b).nmiMid = s.nmiMid := rfl
@[simp] theorem readCycle_rstLine (b : Word) : (s.readCycle b).rstLine = s.rstLine := rfl
@[simp] theorem readCycle_rstMid (b : Word) : (s.readCycle b).rstMid = s.rstMid := rfl
@[simp] theorem readCycle_resetPending (b : Word) : (s.readCycle b).resetPending = s.resetPending := rfl
@[simp] theorem readCycle_schedule (b : Word) : (s.readCycle b).schedule = s.schedule := rfl
@[simp] theorem readCycle_mem (b : Word) : (s.readCycle b).mem = s.mem := rfl
@[simp] theorem readCycle_cart (b : Word) : (s.readCycle b).cart = s.cart := rfl
@[simp] theorem readCycle_apu (b : Word) : (s.readCycle b).apu = s.apu := rfl
@[simp] theorem readCycle_outLatch (b : Word) : (s.readCycle b).outLatch = s.outLatch := rfl
@[simp] theorem readCycle_inputs (b : Word) : (s.readCycle b).inputs = if (s.byteAt b).isSome then s.inputs else s.inputs.tail := rfl
@[simp] theorem readCycle_draws (b : Word) : (s.readCycle b).draws = if (s.byteAt b).isSome then s.draws else s.draws + 1 := rfl
@[simp] theorem readCycle_bus (b : Word) : (s.readCycle b).bus = .read b :: s.bus := rfl

@[simp] theorem writeCycle_a (b : Word) (v : Byte) : (s.writeCycle b v).a = s.a := rfl
@[simp] theorem writeCycle_x (b : Word) (v : Byte) : (s.writeCycle b v).x = s.x := rfl
@[simp] theorem writeCycle_y (b : Word) (v : Byte) : (s.writeCycle b v).y = s.y := rfl
@[simp] theorem writeCycle_sp (b : Word) (v : Byte) : (s.writeCycle b v).sp = s.sp := rfl
@[simp] theorem writeCycle_pc (b : Word) (v : Byte) : (s.writeCycle b v).pc = s.pc := rfl
@[simp] theorem writeCycle_p (b : Word) (v : Byte) : (s.writeCycle b v).p = s.p := rfl
@[simp] theorem writeCycle_iPoll (b : Word) (v : Byte) : (s.writeCycle b v).iPoll = s.iPoll := rfl
@[simp] theorem writeCycle_jammed (b : Word) (v : Byte) : (s.writeCycle b v).jammed = s.jammed := rfl
@[simp] theorem writeCycle_irqLine (b : Word) (v : Byte) : (s.writeCycle b v).irqLine = s.irqLine := rfl
@[simp] theorem writeCycle_nmiLine (b : Word) (v : Byte) : (s.writeCycle b v).nmiLine = s.nmiLine := rfl
@[simp] theorem writeCycle_nmiPending (b : Word) (v : Byte) : (s.writeCycle b v).nmiPending = s.nmiPending := rfl
@[simp] theorem writeCycle_nmiMid (b : Word) (v : Byte) : (s.writeCycle b v).nmiMid = s.nmiMid := rfl
@[simp] theorem writeCycle_rstLine (b : Word) (v : Byte) : (s.writeCycle b v).rstLine = s.rstLine := rfl
@[simp] theorem writeCycle_rstMid (b : Word) (v : Byte) : (s.writeCycle b v).rstMid = s.rstMid := rfl
@[simp] theorem writeCycle_resetPending (b : Word) (v : Byte) : (s.writeCycle b v).resetPending = s.resetPending := rfl
@[simp] theorem writeCycle_schedule (b : Word) (v : Byte) : (s.writeCycle b v).schedule = s.schedule := rfl
@[simp] theorem writeCycle_mem (b : Word) (v : Byte) : (s.writeCycle b v).mem = s.memAfter b v := rfl
@[simp] theorem writeCycle_cart (b : Word) (v : Byte) : (s.writeCycle b v).cart = s.cart := rfl
@[simp] theorem writeCycle_apu (b : Word) (v : Byte) : (s.writeCycle b v).apu = s.apu.write b.toNat v := rfl
@[simp] theorem writeCycle_outLatch (b : Word) (v : Byte) : (s.writeCycle b v).outLatch = if b.toNat = 0x4016 then v.extractLsb' 0 3 else s.outLatch := rfl
@[simp] theorem writeCycle_inputs (b : Word) (v : Byte) : (s.writeCycle b v).inputs = s.inputs := rfl
@[simp] theorem writeCycle_draws (b : Word) (v : Byte) : (s.writeCycle b v).draws = s.draws := rfl
@[simp] theorem writeCycle_bus (b : Word) (v : Byte) : (s.writeCycle b v).bus = .write b v :: s.bus := rfl

@[simp] theorem drawn_a : s.drawn.a = s.a := rfl
@[simp] theorem drawn_x : s.drawn.x = s.x := rfl
@[simp] theorem drawn_y : s.drawn.y = s.y := rfl
@[simp] theorem drawn_sp : s.drawn.sp = s.sp := rfl
@[simp] theorem drawn_pc : s.drawn.pc = s.pc := rfl
@[simp] theorem drawn_p : s.drawn.p = s.p := rfl
@[simp] theorem drawn_iPoll : s.drawn.iPoll = s.iPoll := rfl
@[simp] theorem drawn_jammed : s.drawn.jammed = s.jammed := rfl
@[simp] theorem drawn_irqLine : s.drawn.irqLine = s.irqLine := rfl
@[simp] theorem drawn_nmiLine : s.drawn.nmiLine = s.nmiLine := rfl
@[simp] theorem drawn_nmiPending : s.drawn.nmiPending = s.nmiPending := rfl
@[simp] theorem drawn_nmiMid : s.drawn.nmiMid = s.nmiMid := rfl
@[simp] theorem drawn_rstLine : s.drawn.rstLine = s.rstLine := rfl
@[simp] theorem drawn_rstMid : s.drawn.rstMid = s.rstMid := rfl
@[simp] theorem drawn_resetPending : s.drawn.resetPending = s.resetPending := rfl
@[simp] theorem drawn_schedule : s.drawn.schedule = s.schedule := rfl
@[simp] theorem drawn_mem : s.drawn.mem = s.mem := rfl
@[simp] theorem drawn_cart : s.drawn.cart = s.cart := rfl
@[simp] theorem drawn_apu : s.drawn.apu = s.apu := rfl
@[simp] theorem drawn_outLatch : s.drawn.outLatch = s.outLatch := rfl
@[simp] theorem drawn_inputs : s.drawn.inputs = s.inputs.tail := rfl
@[simp] theorem drawn_draws : s.drawn.draws = s.draws + 1 := rfl
@[simp] theorem drawn_bus : s.drawn.bus = s.bus := rfl

@[simp] theorem push_a (v : Byte) : (s.push v).a = s.a := rfl
@[simp] theorem push_x (v : Byte) : (s.push v).x = s.x := rfl
@[simp] theorem push_y (v : Byte) : (s.push v).y = s.y := rfl
@[simp] theorem push_sp (v : Byte) : (s.push v).sp = s.sp - 1 := rfl
@[simp] theorem push_pc (v : Byte) : (s.push v).pc = s.pc := rfl
@[simp] theorem push_p (v : Byte) : (s.push v).p = s.p := rfl
@[simp] theorem push_iPoll (v : Byte) : (s.push v).iPoll = s.iPoll := rfl
@[simp] theorem push_jammed (v : Byte) : (s.push v).jammed = s.jammed := rfl
@[simp] theorem push_irqLine (v : Byte) : (s.push v).irqLine = s.irqLine := rfl
@[simp] theorem push_nmiLine (v : Byte) : (s.push v).nmiLine = s.nmiLine := rfl
@[simp] theorem push_nmiPending (v : Byte) : (s.push v).nmiPending = s.nmiPending := rfl
@[simp] theorem push_nmiMid (v : Byte) : (s.push v).nmiMid = s.nmiMid := rfl
@[simp] theorem push_rstLine (v : Byte) : (s.push v).rstLine = s.rstLine := rfl
@[simp] theorem push_rstMid (v : Byte) : (s.push v).rstMid = s.rstMid := rfl
@[simp] theorem push_resetPending (v : Byte) : (s.push v).resetPending = s.resetPending := rfl
@[simp] theorem push_schedule (v : Byte) : (s.push v).schedule = s.schedule := rfl
@[simp] theorem push_mem (v : Byte) : (s.push v).mem = s.memAfter (stackAddress s.sp) v := rfl
@[simp] theorem push_cart (v : Byte) : (s.push v).cart = s.cart := rfl
@[simp] theorem push_inputs (v : Byte) : (s.push v).inputs = s.inputs := rfl
@[simp] theorem push_draws (v : Byte) : (s.push v).draws = s.draws := rfl
@[simp] theorem push_bus (v : Byte) : (s.push v).bus = .write (stackAddress s.sp) v :: s.bus := rfl

@[simp] theorem pulled_a : s.pulled.a = s.a := rfl
@[simp] theorem pulled_x : s.pulled.x = s.x := rfl
@[simp] theorem pulled_y : s.pulled.y = s.y := rfl
@[simp] theorem pulled_sp : s.pulled.sp = s.sp + 1 := rfl
@[simp] theorem pulled_pc : s.pulled.pc = s.pc := rfl
@[simp] theorem pulled_p : s.pulled.p = s.p := rfl
@[simp] theorem pulled_iPoll : s.pulled.iPoll = s.iPoll := rfl
@[simp] theorem pulled_jammed : s.pulled.jammed = s.jammed := rfl
@[simp] theorem pulled_irqLine : s.pulled.irqLine = s.irqLine := rfl
@[simp] theorem pulled_nmiLine : s.pulled.nmiLine = s.nmiLine := rfl
@[simp] theorem pulled_nmiPending : s.pulled.nmiPending = s.nmiPending := rfl
@[simp] theorem pulled_nmiMid : s.pulled.nmiMid = s.nmiMid := rfl
@[simp] theorem pulled_rstLine : s.pulled.rstLine = s.rstLine := rfl
@[simp] theorem pulled_rstMid : s.pulled.rstMid = s.rstMid := rfl
@[simp] theorem pulled_resetPending : s.pulled.resetPending = s.resetPending := rfl
@[simp] theorem pulled_schedule : s.pulled.schedule = s.schedule := rfl
@[simp] theorem pulled_mem : s.pulled.mem = s.mem := rfl
@[simp] theorem pulled_cart : s.pulled.cart = s.cart := rfl
@[simp] theorem pulled_apu : s.pulled.apu = s.apu := rfl
@[simp] theorem pulled_outLatch : s.pulled.outLatch = s.outLatch := rfl
@[simp] theorem pulled_bus : s.pulled.bus = .read (stackAddress (s.sp + 1)) :: s.bus := rfl

@[simp] theorem retire_a (n : Word) : (s.retire n).a = s.a := rfl
@[simp] theorem retire_x (n : Word) : (s.retire n).x = s.x := rfl
@[simp] theorem retire_y (n : Word) : (s.retire n).y = s.y := rfl
@[simp] theorem retire_sp (n : Word) : (s.retire n).sp = s.sp := rfl
@[simp] theorem retire_pc (n : Word) : (s.retire n).pc = s.pc + n := rfl
@[simp] theorem retire_p (n : Word) : (s.retire n).p = s.p := rfl
@[simp] theorem retire_iPoll (n : Word) : (s.retire n).iPoll = s.p.i := rfl
@[simp] theorem retire_jammed (n : Word) : (s.retire n).jammed = s.jammed := rfl
@[simp] theorem retire_irqLine (n : Word) : (s.retire n).irqLine = s.irqLine := rfl
@[simp] theorem retire_nmiLine (n : Word) : (s.retire n).nmiLine = s.nmiLine := rfl
@[simp] theorem retire_nmiPending (n : Word) : (s.retire n).nmiPending = s.nmiPending := rfl
@[simp] theorem retire_nmiMid (n : Word) : (s.retire n).nmiMid = s.nmiMid := rfl
@[simp] theorem retire_rstLine (n : Word) : (s.retire n).rstLine = s.rstLine := rfl
@[simp] theorem retire_rstMid (n : Word) : (s.retire n).rstMid = s.rstMid := rfl
@[simp] theorem retire_resetPending (n : Word) : (s.retire n).resetPending = s.resetPending := rfl
@[simp] theorem retire_schedule (n : Word) : (s.retire n).schedule = s.schedule := rfl
@[simp] theorem retire_mem (n : Word) : (s.retire n).mem = s.mem := rfl
@[simp] theorem retire_cart (n : Word) : (s.retire n).cart = s.cart := rfl
@[simp] theorem retire_apu (n : Word) : (s.retire n).apu = s.apu := rfl
@[simp] theorem retire_outLatch (n : Word) : (s.retire n).outLatch = s.outLatch := rfl
@[simp] theorem retire_inputs (n : Word) : (s.retire n).inputs = s.inputs := rfl
@[simp] theorem retire_draws (n : Word) : (s.retire n).draws = s.draws := rfl
@[simp] theorem retire_bus (n : Word) : (s.retire n).bus = s.bus := rfl

@[simp] theorem retireAt_a (w : Word) : (s.retireAt w).a = s.a := rfl
@[simp] theorem retireAt_x (w : Word) : (s.retireAt w).x = s.x := rfl
@[simp] theorem retireAt_y (w : Word) : (s.retireAt w).y = s.y := rfl
@[simp] theorem retireAt_sp (w : Word) : (s.retireAt w).sp = s.sp := rfl
@[simp] theorem retireAt_pc (w : Word) : (s.retireAt w).pc = w := rfl
@[simp] theorem retireAt_p (w : Word) : (s.retireAt w).p = s.p := rfl
@[simp] theorem retireAt_iPoll (w : Word) : (s.retireAt w).iPoll = s.p.i := rfl
@[simp] theorem retireAt_jammed (w : Word) : (s.retireAt w).jammed = s.jammed := rfl
@[simp] theorem retireAt_irqLine (w : Word) : (s.retireAt w).irqLine = s.irqLine := rfl
@[simp] theorem retireAt_nmiLine (w : Word) : (s.retireAt w).nmiLine = s.nmiLine := rfl
@[simp] theorem retireAt_nmiPending (w : Word) : (s.retireAt w).nmiPending = s.nmiPending := rfl
@[simp] theorem retireAt_nmiMid (w : Word) : (s.retireAt w).nmiMid = s.nmiMid := rfl
@[simp] theorem retireAt_rstLine (w : Word) : (s.retireAt w).rstLine = s.rstLine := rfl
@[simp] theorem retireAt_rstMid (w : Word) : (s.retireAt w).rstMid = s.rstMid := rfl
@[simp] theorem retireAt_resetPending (w : Word) : (s.retireAt w).resetPending = s.resetPending := rfl
@[simp] theorem retireAt_schedule (w : Word) : (s.retireAt w).schedule = s.schedule := rfl
@[simp] theorem retireAt_mem (w : Word) : (s.retireAt w).mem = s.mem := rfl
@[simp] theorem retireAt_cart (w : Word) : (s.retireAt w).cart = s.cart := rfl
@[simp] theorem retireAt_apu (w : Word) : (s.retireAt w).apu = s.apu := rfl
@[simp] theorem retireAt_outLatch (w : Word) : (s.retireAt w).outLatch = s.outLatch := rfl
@[simp] theorem retireAt_inputs (w : Word) : (s.retireAt w).inputs = s.inputs := rfl
@[simp] theorem retireAt_draws (w : Word) : (s.retireAt w).draws = s.draws := rfl
@[simp] theorem retireAt_bus (w : Word) : (s.retireAt w).bus = s.bus := rfl

@[simp] theorem idle_a : s.idle.a = s.a := rfl
@[simp] theorem idle_x : s.idle.x = s.x := rfl
@[simp] theorem idle_y : s.idle.y = s.y := rfl
@[simp] theorem idle_sp : s.idle.sp = s.sp := rfl
@[simp] theorem idle_pc : s.idle.pc = s.pc := rfl
@[simp] theorem idle_p : s.idle.p = s.p := rfl
@[simp] theorem idle_iPoll : s.idle.iPoll = s.iPoll := rfl
@[simp] theorem idle_jammed : s.idle.jammed = s.jammed := rfl
@[simp] theorem idle_irqLine : s.idle.irqLine = s.irqLine := rfl
@[simp] theorem idle_nmiLine : s.idle.nmiLine = s.nmiLine := rfl
@[simp] theorem idle_nmiPending : s.idle.nmiPending = s.nmiPending := rfl
@[simp] theorem idle_nmiMid : s.idle.nmiMid = s.nmiMid := rfl
@[simp] theorem idle_rstLine : s.idle.rstLine = s.rstLine := rfl
@[simp] theorem idle_rstMid : s.idle.rstMid = s.rstMid := rfl
@[simp] theorem idle_resetPending : s.idle.resetPending = s.resetPending := rfl
@[simp] theorem idle_schedule : s.idle.schedule = s.schedule := rfl
@[simp] theorem idle_mem : s.idle.mem = s.mem := rfl
@[simp] theorem idle_cart : s.idle.cart = s.cart := rfl
@[simp] theorem idle_apu : s.idle.apu = s.apu := rfl
@[simp] theorem idle_outLatch : s.idle.outLatch = s.outLatch := rfl
@[simp] theorem idle_inputs : s.idle.inputs = if (s.byteAt (s.pc + 1)).isSome then s.inputs else s.inputs.tail := rfl
@[simp] theorem idle_draws : s.idle.draws = if (s.byteAt (s.pc + 1)).isSome then s.draws else s.draws + 1 := rfl
@[simp] theorem idle_bus : s.idle.bus = .read (s.pc + 1) :: s.bus := rfl

@[simp] theorem stackIdle_a : s.stackIdle.a = s.a := rfl
@[simp] theorem stackIdle_x : s.stackIdle.x = s.x := rfl
@[simp] theorem stackIdle_y : s.stackIdle.y = s.y := rfl
@[simp] theorem stackIdle_sp : s.stackIdle.sp = s.sp := rfl
@[simp] theorem stackIdle_pc : s.stackIdle.pc = s.pc := rfl
@[simp] theorem stackIdle_p : s.stackIdle.p = s.p := rfl
@[simp] theorem stackIdle_iPoll : s.stackIdle.iPoll = s.iPoll := rfl
@[simp] theorem stackIdle_jammed : s.stackIdle.jammed = s.jammed := rfl
@[simp] theorem stackIdle_irqLine : s.stackIdle.irqLine = s.irqLine := rfl
@[simp] theorem stackIdle_nmiLine : s.stackIdle.nmiLine = s.nmiLine := rfl
@[simp] theorem stackIdle_nmiPending : s.stackIdle.nmiPending = s.nmiPending := rfl
@[simp] theorem stackIdle_nmiMid : s.stackIdle.nmiMid = s.nmiMid := rfl
@[simp] theorem stackIdle_rstLine : s.stackIdle.rstLine = s.rstLine := rfl
@[simp] theorem stackIdle_rstMid : s.stackIdle.rstMid = s.rstMid := rfl
@[simp] theorem stackIdle_resetPending : s.stackIdle.resetPending = s.resetPending := rfl
@[simp] theorem stackIdle_schedule : s.stackIdle.schedule = s.schedule := rfl
@[simp] theorem stackIdle_mem : s.stackIdle.mem = s.mem := rfl
@[simp] theorem stackIdle_cart : s.stackIdle.cart = s.cart := rfl
@[simp] theorem stackIdle_apu : s.stackIdle.apu = s.apu := rfl
@[simp] theorem stackIdle_outLatch : s.stackIdle.outLatch = s.outLatch := rfl
@[simp] theorem stackIdle_bus : s.stackIdle.bus = .read (stackAddress s.sp) :: s.bus := rfl

@[simp] theorem suppressedPush_a : s.suppressedPush.a = s.a := rfl
@[simp] theorem suppressedPush_x : s.suppressedPush.x = s.x := rfl
@[simp] theorem suppressedPush_y : s.suppressedPush.y = s.y := rfl
@[simp] theorem suppressedPush_sp : s.suppressedPush.sp = s.sp - 1 := rfl
@[simp] theorem suppressedPush_pc : s.suppressedPush.pc = s.pc := rfl
@[simp] theorem suppressedPush_p : s.suppressedPush.p = s.p := rfl
@[simp] theorem suppressedPush_iPoll : s.suppressedPush.iPoll = s.iPoll := rfl
@[simp] theorem suppressedPush_jammed : s.suppressedPush.jammed = s.jammed := rfl
@[simp] theorem suppressedPush_irqLine : s.suppressedPush.irqLine = s.irqLine := rfl
@[simp] theorem suppressedPush_nmiLine : s.suppressedPush.nmiLine = s.nmiLine := rfl
@[simp] theorem suppressedPush_nmiPending : s.suppressedPush.nmiPending = s.nmiPending := rfl
@[simp] theorem suppressedPush_nmiMid : s.suppressedPush.nmiMid = s.nmiMid := rfl
@[simp] theorem suppressedPush_rstLine : s.suppressedPush.rstLine = s.rstLine := rfl
@[simp] theorem suppressedPush_rstMid : s.suppressedPush.rstMid = s.rstMid := rfl
@[simp] theorem suppressedPush_resetPending : s.suppressedPush.resetPending = s.resetPending := rfl
@[simp] theorem suppressedPush_schedule : s.suppressedPush.schedule = s.schedule := rfl
@[simp] theorem suppressedPush_mem : s.suppressedPush.mem = s.mem := rfl
@[simp] theorem suppressedPush_cart : s.suppressedPush.cart = s.cart := rfl
@[simp] theorem suppressedPush_apu : s.suppressedPush.apu = s.apu := rfl
@[simp] theorem suppressedPush_outLatch : s.suppressedPush.outLatch = s.outLatch := rfl
@[simp] theorem suppressedPush_bus : s.suppressedPush.bus = .read (stackAddress s.sp) :: s.bus := rfl

@[simp] theorem latchNmi_a : s.latchNmi.a = s.a := rfl
@[simp] theorem latchNmi_x : s.latchNmi.x = s.x := rfl
@[simp] theorem latchNmi_y : s.latchNmi.y = s.y := rfl
@[simp] theorem latchNmi_sp : s.latchNmi.sp = s.sp := rfl
@[simp] theorem latchNmi_pc : s.latchNmi.pc = s.pc := rfl
@[simp] theorem latchNmi_p : s.latchNmi.p = s.p := rfl
@[simp] theorem latchNmi_iPoll : s.latchNmi.iPoll = s.iPoll := rfl
@[simp] theorem latchNmi_jammed : s.latchNmi.jammed = s.jammed := rfl
@[simp] theorem latchNmi_irqLine : s.latchNmi.irqLine = s.irqLine := rfl
@[simp] theorem latchNmi_nmiLine : s.latchNmi.nmiLine = s.nmiLine := rfl
@[simp] theorem latchNmi_nmiPending : s.latchNmi.nmiPending = (s.nmiPending || s.nmiMid) := rfl
@[simp] theorem latchNmi_nmiMid : s.latchNmi.nmiMid = false := rfl
@[simp] theorem latchNmi_rstLine : s.latchNmi.rstLine = s.rstLine := rfl
@[simp] theorem latchNmi_rstMid : s.latchNmi.rstMid = s.rstMid := rfl
@[simp] theorem latchNmi_resetPending : s.latchNmi.resetPending = s.resetPending := rfl
@[simp] theorem latchNmi_schedule : s.latchNmi.schedule = s.schedule := rfl
@[simp] theorem latchNmi_mem : s.latchNmi.mem = s.mem := rfl
@[simp] theorem latchNmi_cart : s.latchNmi.cart = s.cart := rfl
@[simp] theorem latchNmi_apu : s.latchNmi.apu = s.apu := rfl
@[simp] theorem latchNmi_outLatch : s.latchNmi.outLatch = s.outLatch := rfl
@[simp] theorem latchNmi_inputs : s.latchNmi.inputs = s.inputs := rfl
@[simp] theorem latchNmi_draws : s.latchNmi.draws = s.draws := rfl
@[simp] theorem latchNmi_bus : s.latchNmi.bus = s.bus := rfl

@[simp] theorem readCycle_target (b : Word) (c : Word) : (s.readCycle b).target c = s.target c := rfl
@[simp] theorem readCycle_byteAt (b : Word) (c : Word) : (s.readCycle b).byteAt c = s.byteAt c := rfl
@[simp] theorem writeCycle_target (b : Word) (v : Byte) (c : Word) : (s.writeCycle b v).target c = s.target c := rfl
@[simp] theorem drawn_target (c : Word) : s.drawn.target c = s.target c := rfl
@[simp] theorem drawn_byteAt (c : Word) : s.drawn.byteAt c = s.byteAt c := rfl
@[simp] theorem push_target (v : Byte) (c : Word) : (s.push v).target c = s.target c := rfl
@[simp] theorem pulled_target (c : Word) : s.pulled.target c = s.target c := rfl
@[simp] theorem pulled_byteAt (c : Word) : s.pulled.byteAt c = s.byteAt c := rfl
@[simp] theorem retire_target (n : Word) (c : Word) : (s.retire n).target c = s.target c := rfl
@[simp] theorem retire_byteAt (n : Word) (c : Word) : (s.retire n).byteAt c = s.byteAt c := rfl
@[simp] theorem retire_busRead (n : Word) (c : Word) : (s.retire n).busRead c = s.busRead c := rfl
@[simp] theorem retireAt_target (w : Word) (c : Word) : (s.retireAt w).target c = s.target c := rfl
@[simp] theorem retireAt_byteAt (w : Word) (c : Word) : (s.retireAt w).byteAt c = s.byteAt c := rfl
@[simp] theorem retireAt_busRead (w : Word) (c : Word) : (s.retireAt w).busRead c = s.busRead c := rfl
@[simp] theorem idle_target (c : Word) : s.idle.target c = s.target c := rfl
@[simp] theorem idle_byteAt (c : Word) : s.idle.byteAt c = s.byteAt c := rfl
@[simp] theorem stackIdle_target (c : Word) : s.stackIdle.target c = s.target c := rfl
@[simp] theorem stackIdle_byteAt (c : Word) : s.stackIdle.byteAt c = s.byteAt c := rfl
@[simp] theorem suppressedPush_target (c : Word) : s.suppressedPush.target c = s.target c := rfl
@[simp] theorem suppressedPush_byteAt (c : Word) : s.suppressedPush.byteAt c = s.byteAt c := rfl
@[simp] theorem latchNmi_target (c : Word) : s.latchNmi.target c = s.target c := rfl
@[simp] theorem latchNmi_byteAt (c : Word) : s.latchNmi.byteAt c = s.byteAt c := rfl
@[simp] theorem latchNmi_busRead (c : Word) : s.latchNmi.busRead c = s.busRead c := rfl

@[simp] theorem readCycle_ramByte (b : Word) (c : Nat) : (s.readCycle b).ramByte c = s.ramByte c := rfl
@[simp] theorem drawn_ramByte (c : Nat) : s.drawn.ramByte c = s.ramByte c := rfl
@[simp] theorem pulled_ramByte (c : Nat) : s.pulled.ramByte c = s.ramByte c := rfl
@[simp] theorem retire_ramByte (n : Word) (c : Nat) : (s.retire n).ramByte c = s.ramByte c := rfl
@[simp] theorem retireAt_ramByte (w : Word) (c : Nat) : (s.retireAt w).ramByte c = s.ramByte c := rfl
@[simp] theorem idle_ramByte (c : Nat) : s.idle.ramByte c = s.ramByte c := rfl
@[simp] theorem stackIdle_ramByte (c : Nat) : s.stackIdle.ramByte c = s.ramByte c := rfl
@[simp] theorem suppressedPush_ramByte (c : Nat) : s.suppressedPush.ramByte c = s.ramByte c := rfl
@[simp] theorem latchNmi_ramByte (c : Nat) : s.latchNmi.ramByte c = s.ramByte c := rfl

end Sys2Proof.Machine
end

