-- ==== Sys2Proof/Laws/Memory.lean ====
section
/-! SUPPORT. The canonical list: a read after a write, and that every memory operation keeps the form. -/

namespace Sys2Proof.Machine

@[simp] theorem memLookup_memInsert_same (m : Memory) (a : Nat) (v : Byte) : memLookup (memInsert m a v) a = some v := by
  induction m with
  | nil => simp [memInsert, memLookup]
  | cons e m ih =>
    obtain ⟨k, w⟩ := e
    unfold memInsert
    split
    · simp [memLookup]
    · split
      · simp [memLookup]
      · rename_i h; simp [memLookup, h, ih]

theorem memLookup_memInsert_other (m : Memory) (a b : Nat) (v : Byte) (h : b ≠ a) :
    memLookup (memInsert m a v) b = memLookup m b := by
  induction m with
  | nil => simp [memInsert, memLookup, h]
  | cons e m ih =>
    obtain ⟨k, w⟩ := e
    unfold memInsert
    split
    · simp [memLookup, h]
    · split
      · rename_i hk; subst hk; simp [memLookup, h]
      · simp [memLookup, ih]

/-- Who is listed after an insertion. -/
theorem mem_memInsert {m : Memory} {a : Nat} {v : Byte} {e : Host.Cell} (h : e ∈ memInsert m a v) :
    e = (a, v) ∨ e ∈ m := by
  induction m with
  | nil => simpa [memInsert] using h
  | cons f m ih =>
    obtain ⟨k, w⟩ := f
    unfold memInsert at h
    split at h
    · simpa using h
    · split at h
      · rcases List.mem_cons.1 h with h | h
        · exact .inl h
        · exact .inr (List.mem_cons_of_mem _ h)
      · rcases List.mem_cons.1 h with h | h
        · exact .inr (h ▸ List.mem_cons_self)
        · exact (ih h).imp_right (List.mem_cons_of_mem _)

/-- Who is listed after an erasure. -/
theorem mem_memErase {m : Memory} {a : Nat} {e : Host.Cell} (h : e ∈ memErase m a) : e ∈ m := by
  induction m with
  | nil => simp [memErase] at h
  | cons f m ih =>
    obtain ⟨k, w⟩ := f
    unfold memErase at h
    split at h
    · exact List.mem_cons_of_mem _ h
    · rcases List.mem_cons.1 h with h | h
      · exact h ▸ List.mem_cons_self
      · exact List.mem_cons_of_mem _ (ih h)

/-- Insertion keeps the rising order. -/
theorem memInsert_rising {m : Memory} (a : Nat) (v : Byte) (h : m.Pairwise (fun e f => e.1 < f.1)) :
    (memInsert m a v).Pairwise (fun e f => e.1 < f.1) := by
  induction m with
  | nil => simp [memInsert]
  | cons f m ih =>
    obtain ⟨k, w⟩ := f
    obtain ⟨hk, hm⟩ := List.pairwise_cons.1 h
    unfold memInsert
    split
    · rename_i hlt
      refine List.pairwise_cons.2 ⟨?_, h⟩
      intro g hg
      rcases List.mem_cons.1 hg with rfl | hg
      · exact hlt
      · exact hlt.trans (hk g hg)
    · split
      · rename_i hk'; subst hk'; exact List.pairwise_cons.2 ⟨hk, hm⟩
      · rename_i h1 h2
        refine List.pairwise_cons.2 ⟨?_, ih hm⟩
        intro g hg
        rcases mem_memInsert hg with rfl | hg
        · simp only; omega
        · exact hk g hg

/-- Erasure keeps the rising order. -/
theorem memErase_rising {m : Memory} (a : Nat) (h : m.Pairwise (fun e f => e.1 < f.1)) :
    (memErase m a).Pairwise (fun e f => e.1 < f.1) := by
  induction m with
  | nil => simp [memErase]
  | cons f m ih =>
    obtain ⟨k, w⟩ := f
    obtain ⟨hk, hm⟩ := List.pairwise_cons.1 h
    unfold memErase
    split
    · exact hm
    · exact List.pairwise_cons.2 ⟨fun g hg => hk g (mem_memErase hg), ih hm⟩

/-- Every write of a memory keeps the canonical form. -/
theorem memStore_wf {u : Option Byte} {m : Memory} (a : Nat) (v : Byte) (h : Memory.Wf u m) :
    Memory.Wf u (memStore u m a v) := by
  unfold memStore
  split
  · exact ⟨memErase_rising a h.1, fun e he => h.2 e (mem_memErase he)⟩
  · rename_i hv
    refine ⟨memInsert_rising a v h.1, fun e he => ?_⟩
    rcases mem_memInsert he with rfl | he
    · exact hv
    · exact h.2 e he

@[simp] theorem memStore_none (m : Memory) (a : Nat) (v : Byte) : memStore none m a v = memInsert m a v := by
  simp [memStore]

/-- What is read at an address depends on the RAM and the cartridge only. -/
theorem byteAt_congr {s t : State} (hm : t.mem = s.mem) (hc : t.cart = s.cart) (a : Word) : t.byteAt a = s.byteAt a := by
  unfold State.byteAt State.ramByte State.romByte State.target
  rw [hm, hc]

/-- Two states with the same RAM and cartridge have the same memory. -/
theorem sameMemory_of_eq {s t : State} (hm : t.mem = s.mem) (hc : t.cart = s.cart) : SameMemory s t :=
  byteAt_congr hm hc

/-- A write below the APU registers leaves them alone. -/
theorem apuWrite_below {a : Nat} (r : Apu) (v : Byte) (h : a < 0x4000) : r.write a v = r := by
  unfold Apu.write
  rw [if_neg (by omega), if_neg (by omega), if_neg (by omega), if_neg (by omega), if_neg (by omega),
    if_neg (by omega), if_neg (by omega)]

@[simp] theorem writeCycle_ramAt (s : State) (w : Word) (v : Byte) (c : Word) :
    (s.writeCycle w v).ramAt c = s.ramAt c := rfl

/-- What RAM cell a target names decides what a write cycle changes: the one lemma on `writeCycle` and memory. -/
theorem writeCycle_byteAt (s : State) (w : Word) (v : Byte) (a : Word) :
    (s.writeCycle w v).byteAt a = if s.ramAt w ∧ s.target a = s.target w then some v else s.byteAt a := by
  obtain ⟨tw, hw⟩ : ∃ t, s.target w = t := ⟨_, rfl⟩
  obtain ⟨ta, ha⟩ : ∃ t, s.target a = t := ⟨_, rfl⟩
  cases ta <;> cases tw <;>
    simp [State.byteAt, State.ramAt, ha, hw, State.ramByte, State.romByte, State.memAfter]
  rename_i c d
  by_cases h : c = d
  · subst h; simp
  · simp [h, memLookup_memInsert_other _ _ _ _ h]

/-- A write cycle stores its byte where RAM answers and changes nothing else. -/
theorem writeCycle_storedByte (s : State) (w : Word) (v : Byte) : StoredByte w v s (s.writeCycle w v) where
  there := by simp [writeCycle_byteAt]
  others := fun a h => by
    have := h w (by simp)
    simp [writeCycle_byteAt, this]

/-- RAM answers for page one: the stack (R24, R75). -/
theorem stackAddress_target (s : State) (p : Byte) : s.target (stackAddress p) = .ram (0x100 + p.toNat) := by
  have hp := p.isLt
  have h : (stackAddress p).toNat = 0x100 + p.toNat := by
    simp [stackAddress, wordOf_toNat]
  simp only [State.target, h]
  rw [if_pos (by omega)]
  congr 1
  omega

/-- RAM answers for page zero (R67). -/
theorem zeroPage_target (s : State) (z : Byte) : s.target (zext16 z) = .ram z.toNat := by
  have hz := z.isLt
  simp only [State.target, zext16_toNat]
  rw [if_pos (by omega)]
  congr 1
  omega

/-- A read of the stack reads its RAM cell. -/
theorem byteAt_stack (s : State) (p : Byte) : s.byteAt (stackAddress p) = some (s.ramByte (0x100 + p.toNat)) := by
  rw [State.byteAt, stackAddress_target]

/-- A read of page zero reads its RAM cell. -/
theorem byteAt_zeroPage (s : State) (z : Byte) : s.byteAt (zext16 z) = some (s.ramByte z.toNat) := by
  rw [State.byteAt, zeroPage_target]

@[simp] theorem byteAt_stack_isSome (s : State) (p : Byte) : (s.byteAt (stackAddress p)).isSome = true := by
  rw [byteAt_stack]; rfl

@[simp] theorem byteAt_zeroPage_isSome (s : State) (z : Byte) : (s.byteAt (zext16 z)).isSome = true := by
  rw [byteAt_zeroPage]; rfl

/-- Where storage answers, a read cycle returns what is stored. -/
theorem busRead_of_byteAt {s : State} {a : Word} {b : Byte} (h : s.byteAt a = some b) : s.busRead a = b := by
  rw [State.busRead, h]; rfl

@[simp] theorem busRead_stack (s : State) (p : Byte) : s.busRead (stackAddress p) = s.ramByte (0x100 + p.toNat) :=
  busRead_of_byteAt (byteAt_stack s p)

@[simp] theorem busRead_zeroPage (s : State) (z : Byte) : s.busRead (zext16 z) = s.ramByte z.toNat :=
  busRead_of_byteAt (byteAt_zeroPage s z)

/-- Two stack addresses have the same cell only if they are the same. -/
theorem stackAddress_target_inj (s : State) (p q : Byte) : s.target (stackAddress p) = s.target (stackAddress q) ↔ p = q := by
  simp only [stackAddress_target, Target.ram.injEq]
  constructor
  · intro h; apply BitVec.eq_of_toNat_eq; omega
  · rintro rfl; rfl

/-- What a push leaves in memory. -/
theorem push_byteAt (s : State) (v : Byte) (a : Word) :
    (s.push v).byteAt a = if s.target a = .ram (0x100 + s.sp.toNat) then some v else s.byteAt a := by
  have : (s.push v).byteAt a = (s.writeCycle (stackAddress s.sp) v).byteAt a := rfl
  rw [this, writeCycle_byteAt]
  simp [State.ramAt, stackAddress_target]

/-- What a push leaves in each RAM cell. -/
@[simp] theorem push_ramByte (s : State) (v : Byte) (c : Nat) :
    (s.push v).ramByte c = if c = 0x100 + s.sp.toNat then v else s.ramByte c := by
  have h : (s.push v).mem = memInsert s.mem (0x100 + s.sp.toNat) v := by
    simp only [push_mem, State.memAfter, stackAddress_target, memStore_none]
  unfold State.ramByte
  rw [h]
  by_cases hc : c = 0x100 + s.sp.toNat
  · subst hc; simp
  · simp [hc, memLookup_memInsert_other _ _ _ _ hc]

/-- The devices do not see a push: page one is RAM. -/
theorem stackAddress_low (p : Byte) : (stackAddress p).toNat < 0x4000 := by
  have := p.isLt
  simp only [stackAddress, wordOf_toNat]
  have h : (0x01 : Byte).toNat = 1 := rfl
  omega

@[simp] theorem push_apu (s : State) (v : Byte) : (s.push v).apu = s.apu := apuWrite_below _ _ (stackAddress_low _)

@[simp] theorem push_outLatch (s : State) (v : Byte) : (s.push v).outLatch = s.outLatch := by
  have h := stackAddress_low s.sp
  show (if (stackAddress s.sp).toNat = 0x4016 then _ else _) = _
  rw [if_neg (by omega)]

/-- The byte a pull returns. -/
@[simp] theorem pullValue_eq (s : State) : s.pullValue = s.ramByte (0x100 + (s.sp + 1).toNat) := busRead_stack s (s.sp + 1)

@[simp] theorem pulled_inputs (s : State) : s.pulled.inputs = s.inputs := by simp [State.pulled]

@[simp] theorem pulled_draws (s : State) : s.pulled.draws = s.draws := by simp [State.pulled]

@[simp] theorem stackIdle_inputs (s : State) : s.stackIdle.inputs = s.inputs := by simp [State.stackIdle]

@[simp] theorem stackIdle_draws (s : State) : s.stackIdle.draws = s.draws := by simp [State.stackIdle]

/-- A pull right after a push returns the pushed byte. -/
theorem push_pullValue (s : State) (v : Byte) : (s.push v).pullValue = v := by
  apply busRead_of_byteAt
  rw [push_byteAt]
  simp [stackAddress_target]

/-- The RAM cells hold the same bytes in two states with the same RAM. -/
theorem ramByte_congr {s t : State} (h : t.mem = s.mem) (c : Nat) : t.ramByte c = s.ramByte c := by
  unfold State.ramByte; rw [h]

end Sys2Proof.Machine
end

