-- ==== Sys2Proof/Laws/Operands.lean ====
section
/-! SUPPORT. What the shared operations of Machine/Operands.lean can do, said once each: forming an address and reading an
operand leave everything but the bus history and the draws; a store and a read-modify-write leave what their write
cycles leave. -/

namespace Sys2Proof.Machine

variable (s : State)

/-- Everything the pointer cycles of a mode can do: read cycles. -/
theorem pointerCycles_eq (m : Mode) : s.pointerCycles m = { s with
    bus := (s.pointerCycles m).bus, inputs := (s.pointerCycles m).inputs, draws := (s.pointerCycles m).draws } := by
  cases m <;> rfl

/-- Everything forming an address can do: read cycles. -/
theorem addressed_eq (m : Mode) (k : Access) : s.addressed m k = { s with
    bus := (s.addressed m k).bus, inputs := (s.addressed m k).inputs, draws := (s.addressed m k).draws } := by
  unfold State.addressed
  split
  · rw [pointerCycles_eq]; rfl
  · exact pointerCycles_eq s m

/-- Everything reading an operand can do: read cycles. -/
theorem operandRead_eq (o : Operand) : s.operandRead o = { s with
    bus := (s.operandRead o).bus, inputs := (s.operandRead o).inputs, draws := (s.operandRead o).draws } := by
  cases o with
  | imm n => rfl
  | mem m => rw [State.operandRead, addressed_eq]; rfl

@[simp] theorem addressed_a (m : Mode) (k : Access) : (s.addressed m k).a = s.a := by rw [addressed_eq]
@[simp] theorem addressed_x (m : Mode) (k : Access) : (s.addressed m k).x = s.x := by rw [addressed_eq]
@[simp] theorem addressed_y (m : Mode) (k : Access) : (s.addressed m k).y = s.y := by rw [addressed_eq]
@[simp] theorem addressed_sp (m : Mode) (k : Access) : (s.addressed m k).sp = s.sp := by rw [addressed_eq]
@[simp] theorem addressed_pc (m : Mode) (k : Access) : (s.addressed m k).pc = s.pc := by rw [addressed_eq]
@[simp] theorem addressed_p (m : Mode) (k : Access) : (s.addressed m k).p = s.p := by rw [addressed_eq]
@[simp] theorem addressed_iPoll (m : Mode) (k : Access) : (s.addressed m k).iPoll = s.iPoll := by rw [addressed_eq]
@[simp] theorem addressed_jammed (m : Mode) (k : Access) : (s.addressed m k).jammed = s.jammed := by rw [addressed_eq]
@[simp] theorem addressed_irqLine (m : Mode) (k : Access) : (s.addressed m k).irqLine = s.irqLine := by rw [addressed_eq]
@[simp] theorem addressed_nmiLine (m : Mode) (k : Access) : (s.addressed m k).nmiLine = s.nmiLine := by rw [addressed_eq]
@[simp] theorem addressed_nmiPending (m : Mode) (k : Access) : (s.addressed m k).nmiPending = s.nmiPending := by rw [addressed_eq]
@[simp] theorem addressed_nmiMid (m : Mode) (k : Access) : (s.addressed m k).nmiMid = s.nmiMid := by rw [addressed_eq]
@[simp] theorem addressed_rstLine (m : Mode) (k : Access) : (s.addressed m k).rstLine = s.rstLine := by rw [addressed_eq]
@[simp] theorem addressed_rstMid (m : Mode) (k : Access) : (s.addressed m k).rstMid = s.rstMid := by rw [addressed_eq]
@[simp] theorem addressed_resetPending (m : Mode) (k : Access) : (s.addressed m k).resetPending = s.resetPending := by rw [addressed_eq]
@[simp] theorem addressed_schedule (m : Mode) (k : Access) : (s.addressed m k).schedule = s.schedule := by rw [addressed_eq]
@[simp] theorem addressed_mem (m : Mode) (k : Access) : (s.addressed m k).mem = s.mem := by rw [addressed_eq]
@[simp] theorem addressed_cart (m : Mode) (k : Access) : (s.addressed m k).cart = s.cart := by rw [addressed_eq]
@[simp] theorem addressed_apu (m : Mode) (k : Access) : (s.addressed m k).apu = s.apu := by rw [addressed_eq]
@[simp] theorem addressed_outLatch (m : Mode) (k : Access) : (s.addressed m k).outLatch = s.outLatch := by rw [addressed_eq]
@[simp] theorem addressed_target (m : Mode) (k : Access) (c : Word) : (s.addressed m k).target c = s.target c := by rw [addressed_eq]; rfl
@[simp] theorem addressed_byteAt (m : Mode) (k : Access) (c : Word) : (s.addressed m k).byteAt c = s.byteAt c := by rw [addressed_eq]; rfl

@[simp] theorem operandRead_a (o : Operand) : (s.operandRead o).a = s.a := by rw [operandRead_eq]
@[simp] theorem operandRead_x (o : Operand) : (s.operandRead o).x = s.x := by rw [operandRead_eq]
@[simp] theorem operandRead_y (o : Operand) : (s.operandRead o).y = s.y := by rw [operandRead_eq]
@[simp] theorem operandRead_sp (o : Operand) : (s.operandRead o).sp = s.sp := by rw [operandRead_eq]
@[simp] theorem operandRead_pc (o : Operand) : (s.operandRead o).pc = s.pc := by rw [operandRead_eq]
@[simp] theorem operandRead_p (o : Operand) : (s.operandRead o).p = s.p := by rw [operandRead_eq]
@[simp] theorem operandRead_iPoll (o : Operand) : (s.operandRead o).iPoll = s.iPoll := by rw [operandRead_eq]
@[simp] theorem operandRead_jammed (o : Operand) : (s.operandRead o).jammed = s.jammed := by rw [operandRead_eq]
@[simp] theorem operandRead_irqLine (o : Operand) : (s.operandRead o).irqLine = s.irqLine := by rw [operandRead_eq]
@[simp] theorem operandRead_nmiLine (o : Operand) : (s.operandRead o).nmiLine = s.nmiLine := by rw [operandRead_eq]
@[simp] theorem operandRead_nmiPending (o : Operand) : (s.operandRead o).nmiPending = s.nmiPending := by rw [operandRead_eq]
@[simp] theorem operandRead_nmiMid (o : Operand) : (s.operandRead o).nmiMid = s.nmiMid := by rw [operandRead_eq]
@[simp] theorem operandRead_rstLine (o : Operand) : (s.operandRead o).rstLine = s.rstLine := by rw [operandRead_eq]
@[simp] theorem operandRead_rstMid (o : Operand) : (s.operandRead o).rstMid = s.rstMid := by rw [operandRead_eq]
@[simp] theorem operandRead_resetPending (o : Operand) : (s.operandRead o).resetPending = s.resetPending := by rw [operandRead_eq]
@[simp] theorem operandRead_schedule (o : Operand) : (s.operandRead o).schedule = s.schedule := by rw [operandRead_eq]
@[simp] theorem operandRead_mem (o : Operand) : (s.operandRead o).mem = s.mem := by rw [operandRead_eq]
@[simp] theorem operandRead_cart (o : Operand) : (s.operandRead o).cart = s.cart := by rw [operandRead_eq]
@[simp] theorem operandRead_apu (o : Operand) : (s.operandRead o).apu = s.apu := by rw [operandRead_eq]
@[simp] theorem operandRead_outLatch (o : Operand) : (s.operandRead o).outLatch = s.outLatch := by rw [operandRead_eq]
@[simp] theorem operandRead_target (o : Operand) (c : Word) : (s.operandRead o).target c = s.target c := by rw [operandRead_eq]; rfl
@[simp] theorem operandRead_byteAt (o : Operand) (c : Word) : (s.operandRead o).byteAt c = s.byteAt c := by rw [operandRead_eq]; rfl

/-! ## Stores -/

/-- Everything a store can do: the read cycles of the mode, then one write cycle. -/
theorem stored_eq (m : Mode) (v : Byte) : s.stored m v = { s with
    mem := s.memAfter (s.ea m) v
    apu := s.apu.write (s.ea m).toNat v
    outLatch := if (s.ea m).toNat = 0x4016 then v.extractLsb' 0 3 else s.outLatch
    bus := .write (s.ea m) v :: (s.addressed m .write).bus
    inputs := (s.addressed m .write).inputs
    draws := (s.addressed m .write).draws } := by
  rw [State.stored, addressed_eq]; rfl

@[simp] theorem stored_a (m : Mode) (v : Byte) : (s.stored m v).a = s.a := by rw [stored_eq]
@[simp] theorem stored_x (m : Mode) (v : Byte) : (s.stored m v).x = s.x := by rw [stored_eq]
@[simp] theorem stored_y (m : Mode) (v : Byte) : (s.stored m v).y = s.y := by rw [stored_eq]
@[simp] theorem stored_sp (m : Mode) (v : Byte) : (s.stored m v).sp = s.sp := by rw [stored_eq]
@[simp] theorem stored_pc (m : Mode) (v : Byte) : (s.stored m v).pc = s.pc := by rw [stored_eq]
@[simp] theorem stored_p (m : Mode) (v : Byte) : (s.stored m v).p = s.p := by rw [stored_eq]
@[simp] theorem stored_iPoll (m : Mode) (v : Byte) : (s.stored m v).iPoll = s.iPoll := by rw [stored_eq]
@[simp] theorem stored_jammed (m : Mode) (v : Byte) : (s.stored m v).jammed = s.jammed := by rw [stored_eq]
@[simp] theorem stored_irqLine (m : Mode) (v : Byte) : (s.stored m v).irqLine = s.irqLine := by rw [stored_eq]
@[simp] theorem stored_nmiLine (m : Mode) (v : Byte) : (s.stored m v).nmiLine = s.nmiLine := by rw [stored_eq]
@[simp] theorem stored_nmiPending (m : Mode) (v : Byte) : (s.stored m v).nmiPending = s.nmiPending := by rw [stored_eq]
@[simp] theorem stored_nmiMid (m : Mode) (v : Byte) : (s.stored m v).nmiMid = s.nmiMid := by rw [stored_eq]
@[simp] theorem stored_rstLine (m : Mode) (v : Byte) : (s.stored m v).rstLine = s.rstLine := by rw [stored_eq]
@[simp] theorem stored_rstMid (m : Mode) (v : Byte) : (s.stored m v).rstMid = s.rstMid := by rw [stored_eq]
@[simp] theorem stored_resetPending (m : Mode) (v : Byte) : (s.stored m v).resetPending = s.resetPending := by rw [stored_eq]
@[simp] theorem stored_schedule (m : Mode) (v : Byte) : (s.stored m v).schedule = s.schedule := by rw [stored_eq]
@[simp] theorem stored_cart (m : Mode) (v : Byte) : (s.stored m v).cart = s.cart := by rw [stored_eq]

/-- What a store leaves of each byte. -/
theorem stored_byteAt (m : Mode) (v : Byte) (c : Word) :
    (s.stored m v).byteAt c = (s.writeCycle (s.ea m) v).byteAt c := by rw [stored_eq]; rfl

/-- A store stores its byte at the effective address and nothing else. -/
theorem stored_storedByte (m : Mode) (v : Byte) : StoredByte (s.ea m) v s (s.stored m v) where
  there := by rw [stored_byteAt]; exact (writeCycle_storedByte s (s.ea m) v).there
  others := fun c h => by rw [stored_byteAt]; exact (writeCycle_storedByte s (s.ea m) v).others c h

/-! ## Read-modify-write -/

/-- Everything a read-modify-write can do: the read cycles, the write of the old byte, the write of the new one. -/
theorem modified_eq (m : Mode) (v : Byte) : s.modified m v = { s with
    mem := ((s.writeCycle (s.ea m) (s.modifyOld m)).writeCycle (s.ea m) v).mem
    apu := (s.apu.write (s.ea m).toNat (s.modifyOld m)).write (s.ea m).toNat v
    outLatch := if (s.ea m).toNat = 0x4016 then v.extractLsb' 0 3 else s.outLatch
    bus := .write (s.ea m) v :: .write (s.ea m) (s.modifyOld m) :: .read (s.ea m) :: (s.addressed m .modify).bus
    inputs := ((s.addressed m .modify).readCycle (s.ea m)).inputs
    draws := ((s.addressed m .modify).readCycle (s.ea m)).draws } := by
  rw [State.modified, addressed_eq]
  by_cases h : (s.ea m).toNat = 0x4016
  · simp only [State.writeCycle, State.readCycle, if_pos h]; rfl
  · simp only [State.writeCycle, State.readCycle, if_neg h]; rfl

@[simp] theorem modified_a (m : Mode) (v : Byte) : (s.modified m v).a = s.a := by rw [modified_eq]
@[simp] theorem modified_x (m : Mode) (v : Byte) : (s.modified m v).x = s.x := by rw [modified_eq]
@[simp] theorem modified_y (m : Mode) (v : Byte) : (s.modified m v).y = s.y := by rw [modified_eq]
@[simp] theorem modified_sp (m : Mode) (v : Byte) : (s.modified m v).sp = s.sp := by rw [modified_eq]
@[simp] theorem modified_pc (m : Mode) (v : Byte) : (s.modified m v).pc = s.pc := by rw [modified_eq]
@[simp] theorem modified_p (m : Mode) (v : Byte) : (s.modified m v).p = s.p := by rw [modified_eq]
@[simp] theorem modified_iPoll (m : Mode) (v : Byte) : (s.modified m v).iPoll = s.iPoll := by rw [modified_eq]
@[simp] theorem modified_jammed (m : Mode) (v : Byte) : (s.modified m v).jammed = s.jammed := by rw [modified_eq]
@[simp] theorem modified_irqLine (m : Mode) (v : Byte) : (s.modified m v).irqLine = s.irqLine := by rw [modified_eq]
@[simp] theorem modified_nmiLine (m : Mode) (v : Byte) : (s.modified m v).nmiLine = s.nmiLine := by rw [modified_eq]
@[simp] theorem modified_nmiPending (m : Mode) (v : Byte) : (s.modified m v).nmiPending = s.nmiPending := by rw [modified_eq]
@[simp] theorem modified_nmiMid (m : Mode) (v : Byte) : (s.modified m v).nmiMid = s.nmiMid := by rw [modified_eq]
@[simp] theorem modified_rstLine (m : Mode) (v : Byte) : (s.modified m v).rstLine = s.rstLine := by rw [modified_eq]
@[simp] theorem modified_rstMid (m : Mode) (v : Byte) : (s.modified m v).rstMid = s.rstMid := by rw [modified_eq]
@[simp] theorem modified_resetPending (m : Mode) (v : Byte) : (s.modified m v).resetPending = s.resetPending := by rw [modified_eq]
@[simp] theorem modified_schedule (m : Mode) (v : Byte) : (s.modified m v).schedule = s.schedule := by rw [modified_eq]
@[simp] theorem modified_cart (m : Mode) (v : Byte) : (s.modified m v).cart = s.cart := by rw [modified_eq]

/-- What a read-modify-write leaves of each byte: the write of the old byte is overwritten. -/
theorem modified_byteAt (m : Mode) (v : Byte) (c : Word) :
    (s.modified m v).byteAt c = (s.writeCycle (s.ea m) v).byteAt c := by
  have h : (s.modified m v).byteAt c =
      ((s.writeCycle (s.ea m) (s.modifyOld m)).writeCycle (s.ea m) v).byteAt c := by rw [modified_eq]; rfl
  rw [h, writeCycle_byteAt, writeCycle_byteAt, writeCycle_byteAt]
  simp only [writeCycle_target, writeCycle_ramAt]
  by_cases h : s.ramAt (s.ea m) = true ∧ s.target c = s.target (s.ea m)
  · simp only [if_pos h]
  · simp only [if_neg h]

/-- A read-modify-write stores its new byte at the effective address and nothing else. -/
theorem modified_storedByte (m : Mode) (v : Byte) : StoredByte (s.ea m) v s (s.modified m v) where
  there := by rw [modified_byteAt]; exact (writeCycle_storedByte s (s.ea m) v).there
  others := fun c h => by rw [modified_byteAt]; exact (writeCycle_storedByte s (s.ea m) v).others c h

end Sys2Proof.Machine
end

