-- ==== Sys2Proof/Laws/PerInstr.lean ====
section
/-! SUPPORT. The statements made for every instruction, one lemma per constructor. `DecodesBack`: the encoding is an
opcode byte and the operand bytes that its shape asks for, and the decoder's table builds the instruction back from
them (R100, R101, R102, R119). -/

namespace Sys2Proof.Laws

/-- The encoding of `i` is an opcode byte and as many operand bytes as the opcode map gives it, and they build `i`. -/
def DecodesBack.Statement (i : Instr) : Prop :=
  ∃ b0 ops, encode i = b0 :: ops ∧ ops.length = (opcodeShape b0).operands ∧
    instrOf b0 (ops.getD 0 0) (ops.getD 1 0) = i

/-- The form of a one-byte instruction. -/
theorem decodesBack_plain {i : Instr} {op : Byte} (he : encode i = [op]) (hs : opcodeShape op = .plain i) :
    DecodesBack.Statement i :=
  ⟨op, [], he, by rw [hs]; rfl, by rw [instrOf, hs]; rfl⟩

/-- The form of a two-byte instruction. -/
theorem decodesBack_byte {i : Instr} {op b : Byte} {f : Byte → Instr} (he : encode i = [op, b])
    (hs : opcodeShape op = .byte f) (hf : f b = i) : DecodesBack.Statement i :=
  ⟨op, [b], he, by rw [hs]; rfl, by rw [instrOf, hs]; exact hf⟩

/-- The form of a three-byte instruction: the operand bytes are the word's, low byte first. -/
theorem decodesBack_word {i : Instr} {op : Byte} {w : Word} {f : Word → Instr} (he : encode i = [op, loByte w, hiByte w])
    (hs : opcodeShape op = .word f) (hf : f w = i) : DecodesBack.Statement i :=
  ⟨op, [loByte w, hiByte w], he, by rw [hs]; rfl, by
    rw [instrOf, hs]
    show f (wordOf (loByte w) (hiByte w)) = i
    rw [wordOf_loByte_hiByte]; exact hf⟩

theorem DecodesBack.brk : DecodesBack.Statement .brk := decodesBack_plain rfl rfl
theorem DecodesBack.oraIzx (z : Byte) : DecodesBack.Statement (.oraIzx z) := decodesBack_byte rfl rfl rfl
theorem DecodesBack.jam02 : DecodesBack.Statement .jam02 := decodesBack_plain rfl rfl
theorem DecodesBack.sloIzx (z : Byte) : DecodesBack.Statement (.sloIzx z) := decodesBack_byte rfl rfl rfl
theorem DecodesBack.nopZp04 (z : Byte) : DecodesBack.Statement (.nopZp04 z) := decodesBack_byte rfl rfl rfl
theorem DecodesBack.oraZp (z : Byte) : DecodesBack.Statement (.oraZp z) := decodesBack_byte rfl rfl rfl
theorem DecodesBack.aslZp (z : Byte) : DecodesBack.Statement (.aslZp z) := decodesBack_byte rfl rfl rfl
theorem DecodesBack.sloZp (z : Byte) : DecodesBack.Statement (.sloZp z) := decodesBack_byte rfl rfl rfl
theorem DecodesBack.php : DecodesBack.Statement .php := decodesBack_plain rfl rfl
theorem DecodesBack.oraImm (n : Byte) : DecodesBack.Statement (.oraImm n) := decodesBack_byte rfl rfl rfl
theorem DecodesBack.aslAcc : DecodesBack.Statement .aslAcc := decodesBack_plain rfl rfl
theorem DecodesBack.ancImm0B (n : Byte) : DecodesBack.Statement (.ancImm0B n) := decodesBack_byte rfl rfl rfl
theorem DecodesBack.nopAbs (w : Word) : DecodesBack.Statement (.nopAbs w) := decodesBack_word rfl rfl rfl
theorem DecodesBack.oraAbs (w : Word) : DecodesBack.Statement (.oraAbs w) := decodesBack_word rfl rfl rfl
theorem DecodesBack.aslAbs (w : Word) : DecodesBack.Statement (.aslAbs w) := decodesBack_word rfl rfl rfl
theorem DecodesBack.sloAbs (w : Word) : DecodesBack.Statement (.sloAbs w) := decodesBack_word rfl rfl rfl
theorem DecodesBack.bplRel (r : Byte) : DecodesBack.Statement (.bplRel r) := decodesBack_byte rfl rfl rfl
theorem DecodesBack.oraIzy (z : Byte) : DecodesBack.Statement (.oraIzy z) := decodesBack_byte rfl rfl rfl
theorem DecodesBack.jam12 : DecodesBack.Statement .jam12 := decodesBack_plain rfl rfl
theorem DecodesBack.sloIzy (z : Byte) : DecodesBack.Statement (.sloIzy z) := decodesBack_byte rfl rfl rfl
theorem DecodesBack.nopZpx14 (z : Byte) : DecodesBack.Statement (.nopZpx14 z) := decodesBack_byte rfl rfl rfl
theorem DecodesBack.oraZpx (z : Byte) : DecodesBack.Statement (.oraZpx z) := decodesBack_byte rfl rfl rfl
theorem DecodesBack.aslZpx (z : Byte) : DecodesBack.Statement (.aslZpx z) := decodesBack_byte rfl rfl rfl
theorem DecodesBack.sloZpx (z : Byte) : DecodesBack.Statement (.sloZpx z) := decodesBack_byte rfl rfl rfl
theorem DecodesBack.clc : DecodesBack.Statement .clc := decodesBack_plain rfl rfl
theorem DecodesBack.oraAby (w : Word) : DecodesBack.Statement (.oraAby w) := decodesBack_word rfl rfl rfl
theorem DecodesBack.nop1A : DecodesBack.Statement .nop1A := decodesBack_plain rfl rfl
theorem DecodesBack.sloAby (w : Word) : DecodesBack.Statement (.sloAby w) := decodesBack_word rfl rfl rfl
theorem DecodesBack.nopAbx1C (w : Word) : DecodesBack.Statement (.nopAbx1C w) := decodesBack_word rfl rfl rfl
theorem DecodesBack.oraAbx (w : Word) : DecodesBack.Statement (.oraAbx w) := decodesBack_word rfl rfl rfl
theorem DecodesBack.aslAbx (w : Word) : DecodesBack.Statement (.aslAbx w) := decodesBack_word rfl rfl rfl
theorem DecodesBack.sloAbx (w : Word) : DecodesBack.Statement (.sloAbx w) := decodesBack_word rfl rfl rfl
theorem DecodesBack.jsrAbs (w : Word) : DecodesBack.Statement (.jsrAbs w) := decodesBack_word rfl rfl rfl
theorem DecodesBack.andIzx (z : Byte) : DecodesBack.Statement (.andIzx z) := decodesBack_byte rfl rfl rfl
theorem DecodesBack.jam22 : DecodesBack.Statement .jam22 := decodesBack_plain rfl rfl
theorem DecodesBack.rlaIzx (z : Byte) : DecodesBack.Statement (.rlaIzx z) := decodesBack_byte rfl rfl rfl
theorem DecodesBack.bitZp (z : Byte) : DecodesBack.Statement (.bitZp z) := decodesBack_byte rfl rfl rfl
theorem DecodesBack.andZp (z : Byte) : DecodesBack.Statement (.andZp z) := decodesBack_byte rfl rfl rfl
theorem DecodesBack.rolZp (z : Byte) : DecodesBack.Statement (.rolZp z) := decodesBack_byte rfl rfl rfl
theorem DecodesBack.rlaZp (z : Byte) : DecodesBack.Statement (.rlaZp z) := decodesBack_byte rfl rfl rfl
theorem DecodesBack.plp : DecodesBack.Statement .plp := decodesBack_plain rfl rfl
theorem DecodesBack.andImm (n : Byte) : DecodesBack.Statement (.andImm n) := decodesBack_byte rfl rfl rfl
theorem DecodesBack.rolAcc : DecodesBack.Statement .rolAcc := decodesBack_plain rfl rfl
theorem DecodesBack.ancImm2B (n : Byte) : DecodesBack.Statement (.ancImm2B n) := decodesBack_byte rfl rfl rfl
theorem DecodesBack.bitAbs (w : Word) : DecodesBack.Statement (.bitAbs w) := decodesBack_word rfl rfl rfl
theorem DecodesBack.andAbs (w : Word) : DecodesBack.Statement (.andAbs w) := decodesBack_word rfl rfl rfl
theorem DecodesBack.rolAbs (w : Word) : DecodesBack.Statement (.rolAbs w) := decodesBack_word rfl rfl rfl
theorem DecodesBack.rlaAbs (w : Word) : DecodesBack.Statement (.rlaAbs w) := decodesBack_word rfl rfl rfl
theorem DecodesBack.bmiRel (r : Byte) : DecodesBack.Statement (.bmiRel r) := decodesBack_byte rfl rfl rfl
theorem DecodesBack.andIzy (z : Byte) : DecodesBack.Statement (.andIzy z) := decodesBack_byte rfl rfl rfl
theorem DecodesBack.jam32 : DecodesBack.Statement .jam32 := decodesBack_plain rfl rfl
theorem DecodesBack.rlaIzy (z : Byte) : DecodesBack.Statement (.rlaIzy z) := decodesBack_byte rfl rfl rfl
theorem DecodesBack.nopZpx34 (z : Byte) : DecodesBack.Statement (.nopZpx34 z) := decodesBack_byte rfl rfl rfl
theorem DecodesBack.andZpx (z : Byte) : DecodesBack.Statement (.andZpx z) := decodesBack_byte rfl rfl rfl
theorem DecodesBack.rolZpx (z : Byte) : DecodesBack.Statement (.rolZpx z) := decodesBack_byte rfl rfl rfl
theorem DecodesBack.rlaZpx (z : Byte) : DecodesBack.Statement (.rlaZpx z) := decodesBack_byte rfl rfl rfl
theorem DecodesBack.sec : DecodesBack.Statement .sec := decodesBack_plain rfl rfl
theorem DecodesBack.andAby (w : Word) : DecodesBack.Statement (.andAby w) := decodesBack_word rfl rfl rfl
theorem DecodesBack.nop3A : DecodesBack.Statement .nop3A := decodesBack_plain rfl rfl
theorem DecodesBack.rlaAby (w : Word) : DecodesBack.Statement (.rlaAby w) := decodesBack_word rfl rfl rfl
theorem DecodesBack.nopAbx3C (w : Word) : DecodesBack.Statement (.nopAbx3C w) := decodesBack_word rfl rfl rfl
theorem DecodesBack.andAbx (w : Word) : DecodesBack.Statement (.andAbx w) := decodesBack_word rfl rfl rfl
theorem DecodesBack.rolAbx (w : Word) : DecodesBack.Statement (.rolAbx w) := decodesBack_word rfl rfl rfl
theorem DecodesBack.rlaAbx (w : Word) : DecodesBack.Statement (.rlaAbx w) := decodesBack_word rfl rfl rfl
theorem DecodesBack.rti : DecodesBack.Statement .rti := decodesBack_plain rfl rfl
theorem DecodesBack.eorIzx (z : Byte) : DecodesBack.Statement (.eorIzx z) := decodesBack_byte rfl rfl rfl
theorem DecodesBack.jam42 : DecodesBack.Statement .jam42 := decodesBack_plain rfl rfl
theorem DecodesBack.sreIzx (z : Byte) : DecodesBack.Statement (.sreIzx z) := decodesBack_byte rfl rfl rfl
theorem DecodesBack.nopZp44 (z : Byte) : DecodesBack.Statement (.nopZp44 z) := decodesBack_byte rfl rfl rfl
theorem DecodesBack.eorZp (z : Byte) : DecodesBack.Statement (.eorZp z) := decodesBack_byte rfl rfl rfl
theorem DecodesBack.lsrZp (z : Byte) : DecodesBack.Statement (.lsrZp z) := decodesBack_byte rfl rfl rfl
theorem DecodesBack.sreZp (z : Byte) : DecodesBack.Statement (.sreZp z) := decodesBack_byte rfl rfl rfl
theorem DecodesBack.pha : DecodesBack.Statement .pha := decodesBack_plain rfl rfl
theorem DecodesBack.eorImm (n : Byte) : DecodesBack.Statement (.eorImm n) := decodesBack_byte rfl rfl rfl
theorem DecodesBack.lsrAcc : DecodesBack.Statement .lsrAcc := decodesBack_plain rfl rfl
theorem DecodesBack.alrImm (n : Byte) : DecodesBack.Statement (.alrImm n) := decodesBack_byte rfl rfl rfl
theorem DecodesBack.jmpAbs (w : Word) : DecodesBack.Statement (.jmpAbs w) := decodesBack_word rfl rfl rfl
theorem DecodesBack.eorAbs (w : Word) : DecodesBack.Statement (.eorAbs w) := decodesBack_word rfl rfl rfl
theorem DecodesBack.lsrAbs (w : Word) : DecodesBack.Statement (.lsrAbs w) := decodesBack_word rfl rfl rfl
theorem DecodesBack.sreAbs (w : Word) : DecodesBack.Statement (.sreAbs w) := decodesBack_word rfl rfl rfl
theorem DecodesBack.bvcRel (r : Byte) : DecodesBack.Statement (.bvcRel r) := decodesBack_byte rfl rfl rfl
theorem DecodesBack.eorIzy (z : Byte) : DecodesBack.Statement (.eorIzy z) := decodesBack_byte rfl rfl rfl
theorem DecodesBack.jam52 : DecodesBack.Statement .jam52 := decodesBack_plain rfl rfl
theorem DecodesBack.sreIzy (z : Byte) : DecodesBack.Statement (.sreIzy z) := decodesBack_byte rfl rfl rfl
theorem DecodesBack.nopZpx54 (z : Byte) : DecodesBack.Statement (.nopZpx54 z) := decodesBack_byte rfl rfl rfl
theorem DecodesBack.eorZpx (z : Byte) : DecodesBack.Statement (.eorZpx z) := decodesBack_byte rfl rfl rfl
theorem DecodesBack.lsrZpx (z : Byte) : DecodesBack.Statement (.lsrZpx z) := decodesBack_byte rfl rfl rfl
theorem DecodesBack.sreZpx (z : Byte) : DecodesBack.Statement (.sreZpx z) := decodesBack_byte rfl rfl rfl
theorem DecodesBack.cli : DecodesBack.Statement .cli := decodesBack_plain rfl rfl
theorem DecodesBack.eorAby (w : Word) : DecodesBack.Statement (.eorAby w) := decodesBack_word rfl rfl rfl
theorem DecodesBack.nop5A : DecodesBack.Statement .nop5A := decodesBack_plain rfl rfl
theorem DecodesBack.sreAby (w : Word) : DecodesBack.Statement (.sreAby w) := decodesBack_word rfl rfl rfl
theorem DecodesBack.nopAbx5C (w : Word) : DecodesBack.Statement (.nopAbx5C w) := decodesBack_word rfl rfl rfl
theorem DecodesBack.eorAbx (w : Word) : DecodesBack.Statement (.eorAbx w) := decodesBack_word rfl rfl rfl
theorem DecodesBack.lsrAbx (w : Word) : DecodesBack.Statement (.lsrAbx w) := decodesBack_word rfl rfl rfl
theorem DecodesBack.sreAbx (w : Word) : DecodesBack.Statement (.sreAbx w) := decodesBack_word rfl rfl rfl
theorem DecodesBack.rts : DecodesBack.Statement .rts := decodesBack_plain rfl rfl
theorem DecodesBack.adcIzx (z : Byte) : DecodesBack.Statement (.adcIzx z) := decodesBack_byte rfl rfl rfl
theorem DecodesBack.jam62 : DecodesBack.Statement .jam62 := decodesBack_plain rfl rfl
theorem DecodesBack.rraIzx (z : Byte) : DecodesBack.Statement (.rraIzx z) := decodesBack_byte rfl rfl rfl
theorem DecodesBack.nopZp64 (z : Byte) : DecodesBack.Statement (.nopZp64 z) := decodesBack_byte rfl rfl rfl
theorem DecodesBack.adcZp (z : Byte) : DecodesBack.Statement (.adcZp z) := decodesBack_byte rfl rfl rfl
theorem DecodesBack.rorZp (z : Byte) : DecodesBack.Statement (.rorZp z) := decodesBack_byte rfl rfl rfl
theorem DecodesBack.rraZp (z : Byte) : DecodesBack.Statement (.rraZp z) := decodesBack_byte rfl rfl rfl
theorem DecodesBack.pla : DecodesBack.Statement .pla := decodesBack_plain rfl rfl
theorem DecodesBack.adcImm (n : Byte) : DecodesBack.Statement (.adcImm n) := decodesBack_byte rfl rfl rfl
theorem DecodesBack.rorAcc : DecodesBack.Statement .rorAcc := decodesBack_plain rfl rfl
theorem DecodesBack.arrImm (n : Byte) : DecodesBack.Statement (.arrImm n) := decodesBack_byte rfl rfl rfl
theorem DecodesBack.jmpInd (w : Word) : DecodesBack.Statement (.jmpInd w) := decodesBack_word rfl rfl rfl
theorem DecodesBack.adcAbs (w : Word) : DecodesBack.Statement (.adcAbs w) := decodesBack_word rfl rfl rfl
theorem DecodesBack.rorAbs (w : Word) : DecodesBack.Statement (.rorAbs w) := decodesBack_word rfl rfl rfl
theorem DecodesBack.rraAbs (w : Word) : DecodesBack.Statement (.rraAbs w) := decodesBack_word rfl rfl rfl
theorem DecodesBack.bvsRel (r : Byte) : DecodesBack.Statement (.bvsRel r) := decodesBack_byte rfl rfl rfl
theorem DecodesBack.adcIzy (z : Byte) : DecodesBack.Statement (.adcIzy z) := decodesBack_byte rfl rfl rfl
theorem DecodesBack.jam72 : DecodesBack.Statement .jam72 := decodesBack_plain rfl rfl
theorem DecodesBack.rraIzy (z : Byte) : DecodesBack.Statement (.rraIzy z) := decodesBack_byte rfl rfl rfl
theorem DecodesBack.nopZpx74 (z : Byte) : DecodesBack.Statement (.nopZpx74 z) := decodesBack_byte rfl rfl rfl
theorem DecodesBack.adcZpx (z : Byte) : DecodesBack.Statement (.adcZpx z) := decodesBack_byte rfl rfl rfl
theorem DecodesBack.rorZpx (z : Byte) : DecodesBack.Statement (.rorZpx z) := decodesBack_byte rfl rfl rfl
theorem DecodesBack.rraZpx (z : Byte) : DecodesBack.Statement (.rraZpx z) := decodesBack_byte rfl rfl rfl
theorem DecodesBack.sei : DecodesBack.Statement .sei := decodesBack_plain rfl rfl
theorem DecodesBack.adcAby (w : Word) : DecodesBack.Statement (.adcAby w) := decodesBack_word rfl rfl rfl
theorem DecodesBack.nop7A : DecodesBack.Statement .nop7A := decodesBack_plain rfl rfl
theorem DecodesBack.rraAby (w : Word) : DecodesBack.Statement (.rraAby w) := decodesBack_word rfl rfl rfl
theorem DecodesBack.nopAbx7C (w : Word) : DecodesBack.Statement (.nopAbx7C w) := decodesBack_word rfl rfl rfl
theorem DecodesBack.adcAbx (w : Word) : DecodesBack.Statement (.adcAbx w) := decodesBack_word rfl rfl rfl
theorem DecodesBack.rorAbx (w : Word) : DecodesBack.Statement (.rorAbx w) := decodesBack_word rfl rfl rfl
theorem DecodesBack.rraAbx (w : Word) : DecodesBack.Statement (.rraAbx w) := decodesBack_word rfl rfl rfl
theorem DecodesBack.nopImm80 (n : Byte) : DecodesBack.Statement (.nopImm80 n) := decodesBack_byte rfl rfl rfl
theorem DecodesBack.staIzx (z : Byte) : DecodesBack.Statement (.staIzx z) := decodesBack_byte rfl rfl rfl
theorem DecodesBack.nopImm82 (n : Byte) : DecodesBack.Statement (.nopImm82 n) := decodesBack_byte rfl rfl rfl
theorem DecodesBack.saxIzx (z : Byte) : DecodesBack.Statement (.saxIzx z) := decodesBack_byte rfl rfl rfl
theorem DecodesBack.styZp (z : Byte) : DecodesBack.Statement (.styZp z) := decodesBack_byte rfl rfl rfl
theorem DecodesBack.staZp (z : Byte) : DecodesBack.Statement (.staZp z) := decodesBack_byte rfl rfl rfl
theorem DecodesBack.stxZp (z : Byte) : DecodesBack.Statement (.stxZp z) := decodesBack_byte rfl rfl rfl
theorem DecodesBack.saxZp (z : Byte) : DecodesBack.Statement (.saxZp z) := decodesBack_byte rfl rfl rfl
theorem DecodesBack.dey : DecodesBack.Statement .dey := decodesBack_plain rfl rfl
theorem DecodesBack.nopImm89 (n : Byte) : DecodesBack.Statement (.nopImm89 n) := decodesBack_byte rfl rfl rfl
theorem DecodesBack.txa : DecodesBack.Statement .txa := decodesBack_plain rfl rfl
theorem DecodesBack.aneImm (n : Byte) : DecodesBack.Statement (.aneImm n) := decodesBack_byte rfl rfl rfl
theorem DecodesBack.styAbs (w : Word) : DecodesBack.Statement (.styAbs w) := decodesBack_word rfl rfl rfl
theorem DecodesBack.staAbs (w : Word) : DecodesBack.Statement (.staAbs w) := decodesBack_word rfl rfl rfl
theorem DecodesBack.stxAbs (w : Word) : DecodesBack.Statement (.stxAbs w) := decodesBack_word rfl rfl rfl
theorem DecodesBack.saxAbs (w : Word) : DecodesBack.Statement (.saxAbs w) := decodesBack_word rfl rfl rfl
theorem DecodesBack.bccRel (r : Byte) : DecodesBack.Statement (.bccRel r) := decodesBack_byte rfl rfl rfl
theorem DecodesBack.staIzy (z : Byte) : DecodesBack.Statement (.staIzy z) := decodesBack_byte rfl rfl rfl
theorem DecodesBack.jam92 : DecodesBack.Statement .jam92 := decodesBack_plain rfl rfl
theorem DecodesBack.shaIzy (z : Byte) : DecodesBack.Statement (.shaIzy z) := decodesBack_byte rfl rfl rfl
theorem DecodesBack.styZpx (z : Byte) : DecodesBack.Statement (.styZpx z) := decodesBack_byte rfl rfl rfl
theorem DecodesBack.staZpx (z : Byte) : DecodesBack.Statement (.staZpx z) := decodesBack_byte rfl rfl rfl
theorem DecodesBack.stxZpy (z : Byte) : DecodesBack.Statement (.stxZpy z) := decodesBack_byte rfl rfl rfl
theorem DecodesBack.saxZpy (z : Byte) : DecodesBack.Statement (.saxZpy z) := decodesBack_byte rfl rfl rfl
theorem DecodesBack.tya : DecodesBack.Statement .tya := decodesBack_plain rfl rfl
theorem DecodesBack.staAby (w : Word) : DecodesBack.Statement (.staAby w) := decodesBack_word rfl rfl rfl
theorem DecodesBack.txs : DecodesBack.Statement .txs := decodesBack_plain rfl rfl
theorem DecodesBack.tasAby (w : Word) : DecodesBack.Statement (.tasAby w) := decodesBack_word rfl rfl rfl
theorem DecodesBack.shyAbx (w : Word) : DecodesBack.Statement (.shyAbx w) := decodesBack_word rfl rfl rfl
theorem DecodesBack.staAbx (w : Word) : DecodesBack.Statement (.staAbx w) := decodesBack_word rfl rfl rfl
theorem DecodesBack.shxAby (w : Word) : DecodesBack.Statement (.shxAby w) := decodesBack_word rfl rfl rfl
theorem DecodesBack.shaAby (w : Word) : DecodesBack.Statement (.shaAby w) := decodesBack_word rfl rfl rfl
theorem DecodesBack.ldyImm (n : Byte) : DecodesBack.Statement (.ldyImm n) := decodesBack_byte rfl rfl rfl
theorem DecodesBack.ldaIzx (z : Byte) : DecodesBack.Statement (.ldaIzx z) := decodesBack_byte rfl rfl rfl
theorem DecodesBack.ldxImm (n : Byte) : DecodesBack.Statement (.ldxImm n) := decodesBack_byte rfl rfl rfl
theorem DecodesBack.laxIzx (z : Byte) : DecodesBack.Statement (.laxIzx z) := decodesBack_byte rfl rfl rfl
theorem DecodesBack.ldyZp (z : Byte) : DecodesBack.Statement (.ldyZp z) := decodesBack_byte rfl rfl rfl
theorem DecodesBack.ldaZp (z : Byte) : DecodesBack.Statement (.ldaZp z) := decodesBack_byte rfl rfl rfl
theorem DecodesBack.ldxZp (z : Byte) : DecodesBack.Statement (.ldxZp z) := decodesBack_byte rfl rfl rfl
theorem DecodesBack.laxZp (z : Byte) : DecodesBack.Statement (.laxZp z) := decodesBack_byte rfl rfl rfl
theorem DecodesBack.tay : DecodesBack.Statement .tay := decodesBack_plain rfl rfl
theorem DecodesBack.ldaImm (n : Byte) : DecodesBack.Statement (.ldaImm n) := decodesBack_byte rfl rfl rfl
theorem DecodesBack.tax : DecodesBack.Statement .tax := decodesBack_plain rfl rfl
theorem DecodesBack.lxaImm (n : Byte) : DecodesBack.Statement (.lxaImm n) := decodesBack_byte rfl rfl rfl
theorem DecodesBack.ldyAbs (w : Word) : DecodesBack.Statement (.ldyAbs w) := decodesBack_word rfl rfl rfl
theorem DecodesBack.ldaAbs (w : Word) : DecodesBack.Statement (.ldaAbs w) := decodesBack_word rfl rfl rfl
theorem DecodesBack.ldxAbs (w : Word) : DecodesBack.Statement (.ldxAbs w) := decodesBack_word rfl rfl rfl
theorem DecodesBack.laxAbs (w : Word) : DecodesBack.Statement (.laxAbs w) := decodesBack_word rfl rfl rfl
theorem DecodesBack.bcsRel (r : Byte) : DecodesBack.Statement (.bcsRel r) := decodesBack_byte rfl rfl rfl
theorem DecodesBack.ldaIzy (z : Byte) : DecodesBack.Statement (.ldaIzy z) := decodesBack_byte rfl rfl rfl
theorem DecodesBack.jamB2 : DecodesBack.Statement .jamB2 := decodesBack_plain rfl rfl
theorem DecodesBack.laxIzy (z : Byte) : DecodesBack.Statement (.laxIzy z) := decodesBack_byte rfl rfl rfl
theorem DecodesBack.ldyZpx (z : Byte) : DecodesBack.Statement (.ldyZpx z) := decodesBack_byte rfl rfl rfl
theorem DecodesBack.ldaZpx (z : Byte) : DecodesBack.Statement (.ldaZpx z) := decodesBack_byte rfl rfl rfl
theorem DecodesBack.ldxZpy (z : Byte) : DecodesBack.Statement (.ldxZpy z) := decodesBack_byte rfl rfl rfl
theorem DecodesBack.laxZpy (z : Byte) : DecodesBack.Statement (.laxZpy z) := decodesBack_byte rfl rfl rfl
theorem DecodesBack.clv : DecodesBack.Statement .clv := decodesBack_plain rfl rfl
theorem DecodesBack.ldaAby (w : Word) : DecodesBack.Statement (.ldaAby w) := decodesBack_word rfl rfl rfl
theorem DecodesBack.tsx : DecodesBack.Statement .tsx := decodesBack_plain rfl rfl
theorem DecodesBack.lasAby (w : Word) : DecodesBack.Statement (.lasAby w) := decodesBack_word rfl rfl rfl
theorem DecodesBack.ldyAbx (w : Word) : DecodesBack.Statement (.ldyAbx w) := decodesBack_word rfl rfl rfl
theorem DecodesBack.ldaAbx (w : Word) : DecodesBack.Statement (.ldaAbx w) := decodesBack_word rfl rfl rfl
theorem DecodesBack.ldxAby (w : Word) : DecodesBack.Statement (.ldxAby w) := decodesBack_word rfl rfl rfl
theorem DecodesBack.laxAby (w : Word) : DecodesBack.Statement (.laxAby w) := decodesBack_word rfl rfl rfl
theorem DecodesBack.cpyImm (n : Byte) : DecodesBack.Statement (.cpyImm n) := decodesBack_byte rfl rfl rfl
theorem DecodesBack.cmpIzx (z : Byte) : DecodesBack.Statement (.cmpIzx z) := decodesBack_byte rfl rfl rfl
theorem DecodesBack.nopImmC2 (n : Byte) : DecodesBack.Statement (.nopImmC2 n) := decodesBack_byte rfl rfl rfl
theorem DecodesBack.dcpIzx (z : Byte) : DecodesBack.Statement (.dcpIzx z) := decodesBack_byte rfl rfl rfl
theorem DecodesBack.cpyZp (z : Byte) : DecodesBack.Statement (.cpyZp z) := decodesBack_byte rfl rfl rfl
theorem DecodesBack.cmpZp (z : Byte) : DecodesBack.Statement (.cmpZp z) := decodesBack_byte rfl rfl rfl
theorem DecodesBack.decZp (z : Byte) : DecodesBack.Statement (.decZp z) := decodesBack_byte rfl rfl rfl
theorem DecodesBack.dcpZp (z : Byte) : DecodesBack.Statement (.dcpZp z) := decodesBack_byte rfl rfl rfl
theorem DecodesBack.iny : DecodesBack.Statement .iny := decodesBack_plain rfl rfl
theorem DecodesBack.cmpImm (n : Byte) : DecodesBack.Statement (.cmpImm n) := decodesBack_byte rfl rfl rfl
theorem DecodesBack.dex : DecodesBack.Statement .dex := decodesBack_plain rfl rfl
theorem DecodesBack.axsImm (n : Byte) : DecodesBack.Statement (.axsImm n) := decodesBack_byte rfl rfl rfl
theorem DecodesBack.cpyAbs (w : Word) : DecodesBack.Statement (.cpyAbs w) := decodesBack_word rfl rfl rfl
theorem DecodesBack.cmpAbs (w : Word) : DecodesBack.Statement (.cmpAbs w) := decodesBack_word rfl rfl rfl
theorem DecodesBack.decAbs (w : Word) : DecodesBack.Statement (.decAbs w) := decodesBack_word rfl rfl rfl
theorem DecodesBack.dcpAbs (w : Word) : DecodesBack.Statement (.dcpAbs w) := decodesBack_word rfl rfl rfl
theorem DecodesBack.bneRel (r : Byte) : DecodesBack.Statement (.bneRel r) := decodesBack_byte rfl rfl rfl
theorem DecodesBack.cmpIzy (z : Byte) : DecodesBack.Statement (.cmpIzy z) := decodesBack_byte rfl rfl rfl
theorem DecodesBack.jamD2 : DecodesBack.Statement .jamD2 := decodesBack_plain rfl rfl
theorem DecodesBack.dcpIzy (z : Byte) : DecodesBack.Statement (.dcpIzy z) := decodesBack_byte rfl rfl rfl
theorem DecodesBack.nopZpxD4 (z : Byte) : DecodesBack.Statement (.nopZpxD4 z) := decodesBack_byte rfl rfl rfl
theorem DecodesBack.cmpZpx (z : Byte) : DecodesBack.Statement (.cmpZpx z) := decodesBack_byte rfl rfl rfl
theorem DecodesBack.decZpx (z : Byte) : DecodesBack.Statement (.decZpx z) := decodesBack_byte rfl rfl rfl
theorem DecodesBack.dcpZpx (z : Byte) : DecodesBack.Statement (.dcpZpx z) := decodesBack_byte rfl rfl rfl
theorem DecodesBack.cld : DecodesBack.Statement .cld := decodesBack_plain rfl rfl
theorem DecodesBack.cmpAby (w : Word) : DecodesBack.Statement (.cmpAby w) := decodesBack_word rfl rfl rfl
theorem DecodesBack.nopDA : DecodesBack.Statement .nopDA := decodesBack_plain rfl rfl
theorem DecodesBack.dcpAby (w : Word) : DecodesBack.Statement (.dcpAby w) := decodesBack_word rfl rfl rfl
theorem DecodesBack.nopAbxDC (w : Word) : DecodesBack.Statement (.nopAbxDC w) := decodesBack_word rfl rfl rfl
theorem DecodesBack.cmpAbx (w : Word) : DecodesBack.Statement (.cmpAbx w) := decodesBack_word rfl rfl rfl
theorem DecodesBack.decAbx (w : Word) : DecodesBack.Statement (.decAbx w) := decodesBack_word rfl rfl rfl
theorem DecodesBack.dcpAbx (w : Word) : DecodesBack.Statement (.dcpAbx w) := decodesBack_word rfl rfl rfl
theorem DecodesBack.cpxImm (n : Byte) : DecodesBack.Statement (.cpxImm n) := decodesBack_byte rfl rfl rfl
theorem DecodesBack.sbcIzx (z : Byte) : DecodesBack.Statement (.sbcIzx z) := decodesBack_byte rfl rfl rfl
theorem DecodesBack.nopImmE2 (n : Byte) : DecodesBack.Statement (.nopImmE2 n) := decodesBack_byte rfl rfl rfl
theorem DecodesBack.iscIzx (z : Byte) : DecodesBack.Statement (.iscIzx z) := decodesBack_byte rfl rfl rfl
theorem DecodesBack.cpxZp (z : Byte) : DecodesBack.Statement (.cpxZp z) := decodesBack_byte rfl rfl rfl
theorem DecodesBack.sbcZp (z : Byte) : DecodesBack.Statement (.sbcZp z) := decodesBack_byte rfl rfl rfl
theorem DecodesBack.incZp (z : Byte) : DecodesBack.Statement (.incZp z) := decodesBack_byte rfl rfl rfl
theorem DecodesBack.iscZp (z : Byte) : DecodesBack.Statement (.iscZp z) := decodesBack_byte rfl rfl rfl
theorem DecodesBack.inx : DecodesBack.Statement .inx := decodesBack_plain rfl rfl
theorem DecodesBack.sbcImm (n : Byte) : DecodesBack.Statement (.sbcImm n) := decodesBack_byte rfl rfl rfl
theorem DecodesBack.nop : DecodesBack.Statement .nop := decodesBack_plain rfl rfl
theorem DecodesBack.sbcImmEB (n : Byte) : DecodesBack.Statement (.sbcImmEB n) := decodesBack_byte rfl rfl rfl
theorem DecodesBack.cpxAbs (w : Word) : DecodesBack.Statement (.cpxAbs w) := decodesBack_word rfl rfl rfl
theorem DecodesBack.sbcAbs (w : Word) : DecodesBack.Statement (.sbcAbs w) := decodesBack_word rfl rfl rfl
theorem DecodesBack.incAbs (w : Word) : DecodesBack.Statement (.incAbs w) := decodesBack_word rfl rfl rfl
theorem DecodesBack.iscAbs (w : Word) : DecodesBack.Statement (.iscAbs w) := decodesBack_word rfl rfl rfl
theorem DecodesBack.beqRel (r : Byte) : DecodesBack.Statement (.beqRel r) := decodesBack_byte rfl rfl rfl
theorem DecodesBack.sbcIzy (z : Byte) : DecodesBack.Statement (.sbcIzy z) := decodesBack_byte rfl rfl rfl
theorem DecodesBack.jamF2 : DecodesBack.Statement .jamF2 := decodesBack_plain rfl rfl
theorem DecodesBack.iscIzy (z : Byte) : DecodesBack.Statement (.iscIzy z) := decodesBack_byte rfl rfl rfl
theorem DecodesBack.nopZpxF4 (z : Byte) : DecodesBack.Statement (.nopZpxF4 z) := decodesBack_byte rfl rfl rfl
theorem DecodesBack.sbcZpx (z : Byte) : DecodesBack.Statement (.sbcZpx z) := decodesBack_byte rfl rfl rfl
theorem DecodesBack.incZpx (z : Byte) : DecodesBack.Statement (.incZpx z) := decodesBack_byte rfl rfl rfl
theorem DecodesBack.iscZpx (z : Byte) : DecodesBack.Statement (.iscZpx z) := decodesBack_byte rfl rfl rfl
theorem DecodesBack.sed : DecodesBack.Statement .sed := decodesBack_plain rfl rfl
theorem DecodesBack.sbcAby (w : Word) : DecodesBack.Statement (.sbcAby w) := decodesBack_word rfl rfl rfl
theorem DecodesBack.nopFA : DecodesBack.Statement .nopFA := decodesBack_plain rfl rfl
theorem DecodesBack.iscAby (w : Word) : DecodesBack.Statement (.iscAby w) := decodesBack_word rfl rfl rfl
theorem DecodesBack.nopAbxFC (w : Word) : DecodesBack.Statement (.nopAbxFC w) := decodesBack_word rfl rfl rfl
theorem DecodesBack.sbcAbx (w : Word) : DecodesBack.Statement (.sbcAbx w) := decodesBack_word rfl rfl rfl
theorem DecodesBack.incAbx (w : Word) : DecodesBack.Statement (.incAbx w) := decodesBack_word rfl rfl rfl
theorem DecodesBack.iscAbx (w : Word) : DecodesBack.Statement (.iscAbx w) := decodesBack_word rfl rfl rfl

end Sys2Proof.Laws
end

