-- ==== Sys2Proof/Laws/Sequences.lean ====
section
/-! SUPPORT. What the shared operations of the machine's sequences can do, said once each: loading a vector, pushing the
frame of an interrupt, taking an interrupt, the reset sequence, the environment's pin events, the fetch, and the
invariant under each. -/

namespace Sys2Proof.Machine

variable (s : State)

/-! ## Loading a vector -/

/-- Everything loading a vector can do: PC, and two read cycles. -/
theorem loadVector_eq (v : Word) : s.loadVector v = { s with
    pc := (s.loadVector v).pc
    bus := .read (v + 1) :: .read v :: s.bus
    inputs := (s.loadVector v).inputs
    draws := (s.loadVector v).draws } := rfl

@[simp] theorem loadVector_a (v : Word) : (s.loadVector v).a = s.a := by rw [loadVector_eq]
@[simp] theorem loadVector_x (v : Word) : (s.loadVector v).x = s.x := by rw [loadVector_eq]
@[simp] theorem loadVector_y (v : Word) : (s.loadVector v).y = s.y := by rw [loadVector_eq]
@[simp] theorem loadVector_sp (v : Word) : (s.loadVector v).sp = s.sp := by rw [loadVector_eq]
@[simp] theorem loadVector_p (v : Word) : (s.loadVector v).p = s.p := by rw [loadVector_eq]
@[simp] theorem loadVector_iPoll (v : Word) : (s.loadVector v).iPoll = s.iPoll := by rw [loadVector_eq]
@[simp] theorem loadVector_jammed (v : Word) : (s.loadVector v).jammed = s.jammed := by rw [loadVector_eq]
@[simp] theorem loadVector_irqLine (v : Word) : (s.loadVector v).irqLine = s.irqLine := by rw [loadVector_eq]
@[simp] theorem loadVector_nmiLine (v : Word) : (s.loadVector v).nmiLine = s.nmiLine := by rw [loadVector_eq]
@[simp] theorem loadVector_nmiPending (v : Word) : (s.loadVector v).nmiPending = s.nmiPending := by rw [loadVector_eq]
@[simp] theorem loadVector_nmiMid (v : Word) : (s.loadVector v).nmiMid = s.nmiMid := by rw [loadVector_eq]
@[simp] theorem loadVector_rstLine (v : Word) : (s.loadVector v).rstLine = s.rstLine := by rw [loadVector_eq]
@[simp] theorem loadVector_rstMid (v : Word) : (s.loadVector v).rstMid = s.rstMid := by rw [loadVector_eq]
@[simp] theorem loadVector_resetPending (v : Word) : (s.loadVector v).resetPending = s.resetPending := by rw [loadVector_eq]
@[simp] theorem loadVector_schedule (v : Word) : (s.loadVector v).schedule = s.schedule := by rw [loadVector_eq]
@[simp] theorem loadVector_mem (v : Word) : (s.loadVector v).mem = s.mem := by rw [loadVector_eq]
@[simp] theorem loadVector_cart (v : Word) : (s.loadVector v).cart = s.cart := by rw [loadVector_eq]
@[simp] theorem loadVector_apu (v : Word) : (s.loadVector v).apu = s.apu := by rw [loadVector_eq]
@[simp] theorem loadVector_outLatch (v : Word) : (s.loadVector v).outLatch = s.outLatch := by rw [loadVector_eq]
@[simp] theorem loadVector_bus (v : Word) : (s.loadVector v).bus = .read (v + 1) :: .read v :: s.bus := by
  rw [loadVector_eq]

/-- PC after a vector is loaded, where storage answers at the vector (R66, R72). -/
theorem loadVector_pc {s : State} {v : Word} {lo hi : Byte} (h1 : s.byteAt v = some lo) (h2 : s.byteAt (v + 1) = some hi) :
    (s.loadVector v).pc = wordOf lo hi := by
  show wordOf (s.busRead v) ((s.readCycle v).busRead (v + 1)) = _
  rw [busRead_of_byteAt h1, busRead_of_byteAt (s := s.readCycle v) h2]

/-! ## The frame of an interrupt -/

@[simp] theorem pushFrame_a (r : Word) (b : Bool) : (s.pushFrame r b).a = s.a := by simp [State.pushFrame]
@[simp] theorem pushFrame_x (r : Word) (b : Bool) : (s.pushFrame r b).x = s.x := by simp [State.pushFrame]
@[simp] theorem pushFrame_y (r : Word) (b : Bool) : (s.pushFrame r b).y = s.y := by simp [State.pushFrame]
@[simp] theorem pushFrame_pc (r : Word) (b : Bool) : (s.pushFrame r b).pc = s.pc := by simp [State.pushFrame]
@[simp] theorem pushFrame_p (r : Word) (b : Bool) : (s.pushFrame r b).p = s.p := by simp [State.pushFrame]
@[simp] theorem pushFrame_iPoll (r : Word) (b : Bool) : (s.pushFrame r b).iPoll = s.iPoll := by simp [State.pushFrame]
@[simp] theorem pushFrame_jammed (r : Word) (b : Bool) : (s.pushFrame r b).jammed = s.jammed := by simp [State.pushFrame]
@[simp] theorem pushFrame_irqLine (r : Word) (b : Bool) : (s.pushFrame r b).irqLine = s.irqLine := by simp [State.pushFrame]
@[simp] theorem pushFrame_nmiLine (r : Word) (b : Bool) : (s.pushFrame r b).nmiLine = s.nmiLine := by simp [State.pushFrame]
@[simp] theorem pushFrame_nmiPending (r : Word) (b : Bool) : (s.pushFrame r b).nmiPending = s.nmiPending := by simp [State.pushFrame]
@[simp] theorem pushFrame_nmiMid (r : Word) (b : Bool) : (s.pushFrame r b).nmiMid = s.nmiMid := by simp [State.pushFrame]
@[simp] theorem pushFrame_rstLine (r : Word) (b : Bool) : (s.pushFrame r b).rstLine = s.rstLine := by simp [State.pushFrame]
@[simp] theorem pushFrame_rstMid (r : Word) (b : Bool) : (s.pushFrame r b).rstMid = s.rstMid := by simp [State.pushFrame]
@[simp] theorem pushFrame_resetPending (r : Word) (b : Bool) : (s.pushFrame r b).resetPending = s.resetPending := by simp [State.pushFrame]
@[simp] theorem pushFrame_schedule (r : Word) (b : Bool) : (s.pushFrame r b).schedule = s.schedule := by simp [State.pushFrame]
@[simp] theorem pushFrame_cart (r : Word) (b : Bool) : (s.pushFrame r b).cart = s.cart := by simp [State.pushFrame]
@[simp] theorem pushFrame_inputs (r : Word) (b : Bool) : (s.pushFrame r b).inputs = s.inputs := by simp [State.pushFrame]
@[simp] theorem pushFrame_draws (r : Word) (b : Bool) : (s.pushFrame r b).draws = s.draws := by simp [State.pushFrame]
@[simp] theorem pushFrame_apu (r : Word) (b : Bool) : (s.pushFrame r b).apu = s.apu := by simp [State.pushFrame]
@[simp] theorem pushFrame_outLatch (r : Word) (b : Bool) : (s.pushFrame r b).outLatch = s.outLatch := by
  simp [State.pushFrame]
@[simp] theorem pushFrame_sp (r : Word) (b : Bool) : (s.pushFrame r b).sp = s.sp - 3 := by simp [State.pushFrame]
@[simp] theorem pushFrame_bus (r : Word) (b : Bool) : (s.pushFrame r b).bus =
    .write (stackAddress (s.sp - 2)) (s.p.pack b) :: .write (stackAddress (s.sp - 1)) (loByte r) ::
      .write (stackAddress s.sp) (hiByte r) :: s.bus := by simp [State.pushFrame]

/-- What the three pushes leave of each byte: the flags, the low and the high byte of the return address, newest first. -/
theorem pushFrame_byteAt (r : Word) (b : Bool) (c : Word) : (s.pushFrame r b).byteAt c =
    if s.target c = s.target (stackAddress (s.sp - 2)) then some (s.p.pack b)
    else if s.target c = s.target (stackAddress (s.sp - 1)) then some (loByte r)
    else if s.target c = s.target (stackAddress s.sp) then some (hiByte r)
    else s.byteAt c := by
  simp only [State.pushFrame, push_byteAt, push_target, push_sp, stackAddress_target]
  simp

/-! ## Taking an interrupt -/

@[simp] theorem enter_a (r : Word) (b : Bool) (v : Word) : (s.enter r b v).a = s.a := by simp [State.enter]
@[simp] theorem enter_x (r : Word) (b : Bool) (v : Word) : (s.enter r b v).x = s.x := by simp [State.enter]
@[simp] theorem enter_y (r : Word) (b : Bool) (v : Word) : (s.enter r b v).y = s.y := by simp [State.enter]
@[simp] theorem enter_jammed (r : Word) (b : Bool) (v : Word) : (s.enter r b v).jammed = s.jammed := by simp [State.enter]
@[simp] theorem enter_irqLine (r : Word) (b : Bool) (v : Word) : (s.enter r b v).irqLine = s.irqLine := by simp [State.enter]
@[simp] theorem enter_nmiLine (r : Word) (b : Bool) (v : Word) : (s.enter r b v).nmiLine = s.nmiLine := by simp [State.enter]
@[simp] theorem enter_nmiMid (r : Word) (b : Bool) (v : Word) : (s.enter r b v).nmiMid = s.nmiMid := by simp [State.enter]
@[simp] theorem enter_rstLine (r : Word) (b : Bool) (v : Word) : (s.enter r b v).rstLine = s.rstLine := by simp [State.enter]
@[simp] theorem enter_rstMid (r : Word) (b : Bool) (v : Word) : (s.enter r b v).rstMid = s.rstMid := by simp [State.enter]
@[simp] theorem enter_resetPending (r : Word) (b : Bool) (v : Word) : (s.enter r b v).resetPending = s.resetPending := by simp [State.enter]
@[simp] theorem enter_schedule (r : Word) (b : Bool) (v : Word) : (s.enter r b v).schedule = s.schedule := by simp [State.enter]
@[simp] theorem enter_cart (r : Word) (b : Bool) (v : Word) : (s.enter r b v).cart = s.cart := by simp [State.enter]
@[simp] theorem enter_apu (r : Word) (b : Bool) (v : Word) : (s.enter r b v).apu = s.apu := by simp [State.enter]
@[simp] theorem enter_outLatch (r : Word) (b : Bool) (v : Word) : (s.enter r b v).outLatch = s.outLatch := by simp [State.enter]
@[simp] theorem enter_sp (r : Word) (b : Bool) (v : Word) : (s.enter r b v).sp = s.sp - 3 := by simp [State.enter]
@[simp] theorem enter_iPoll (r : Word) (b : Bool) (v : Word) : (s.enter r b v).iPoll = true := rfl
@[simp] theorem enter_p (r : Word) (b : Bool) (v : Word) : (s.enter r b v).p = { s.p with i := true } := rfl
@[simp] theorem enter_nmiPending (r : Word) (b : Bool) (v : Word) : (s.enter r b v).nmiPending = false := by
  cases h : s.nmiPending <;> simp [State.enter, State.vectorFor, h]
@[simp] theorem enter_mem (r : Word) (b : Bool) (v : Word) : (s.enter r b v).mem = (s.pushFrame r b).mem := rfl
@[simp] theorem enter_bus (r : Word) (b : Bool) (v : Word) : (s.enter r b v).bus =
    .read (s.vectorFor v + 1) :: .read (s.vectorFor v) :: .write (stackAddress (s.sp - 2)) (s.p.pack b) ::
      .write (stackAddress (s.sp - 1)) (loByte r) :: .write (stackAddress s.sp) (hiByte r) :: s.bus := by
  simp [State.enter]

/-- What an entry leaves of each byte is what its pushes leave. -/
theorem enter_byteAt (r : Word) (b : Bool) (v c : Word) : (s.enter r b v).byteAt c = (s.pushFrame r b).byteAt c :=
  byteAt_congr (enter_mem s r b v) (enter_cart s r b v) c

/-- An entry from a state that differs from `s` in the cycles `lead`, the draws and the NMI latch only is an entry at
`s` (R310, R238): the one lemma on `State.enter`. -/
theorem enter_entered (s u : State) (r : Word) (b : Bool) (v : Word) (lead : List BusCycle)
   (h : u = { s with bus := lead ++ s.bus, inputs := u.inputs, draws := u.draws, nmiPending := u.nmiPending, nmiMid := u.nmiMid})
   (hv2 : (0x4020:Nat) ≤ (u.vectorFor v).toNat ∧ (0x4020 : Nat) ≤ (u.vectorFor v + 1).toNat) :
   Entered r b (u.vectorFor v) lead s (u.enter r b v) := by
  have hm : u.mem = s.mem := by rw [h]
  have hc : u.cart = s.cart := by rw [h]
  have hsp : u.sp = s.sp := by rw [h]
  have hp : u.p = s.p := by rw [h]
  have ht : ∀ a, u.target a = s.target a := by intro a; rw [h]; rfl
  have hb : ∀ a, u.byteAt a = s.byteAt a := byteAt_congr hm hc
  have e2 : ∀ a, (u.enter r b v).byteAt a = if s.target a = .ram (256 + (s.sp - 2).toNat) then some (s.p.pack b) else if s.target a = .ram (256 + (s.sp - 1).toNat) then some (loByte r) else if s.target a = .ram (256 + s.sp.toNat) then some (hiByte r) else s.byteAt a := by
    intro a; rw [enter_byteAt, pushFrame_byteAt]; simp only [ht, hsp, hp, hb, stackAddress_target]
  have ne1 : s.sp.toNat ≠ (s.sp - 1).toNat := fun h => (by bv_omega : s.sp ≠ s.sp - 1) (BitVec.eq_of_toNat_eq h)
  have ne2 : s.sp.toNat ≠ (s.sp - 2).toNat := fun h => (by bv_omega : s.sp ≠ s.sp - 2) (BitVec.eq_of_toNat_eq h)
  have ne3 : (s.sp-1).toNat ≠ (s.sp - 2).toNat := fun h => (by bv_omega : s.sp - 1 ≠ s.sp - 2) (BitVec.eq_of_toNat_eq h)
  constructor
  · constructor <;> simp <;> rw [h]
  · rw [enter_p, hp]
  · simp
  · rw [e2, stackAddress_target, if_neg (by simpa using ne2), if_neg (by simpa using ne1), if_pos rfl]
  · rw [e2, stackAddress_target, if_neg (by simpa using ne3), if_pos rfl]
  · rw [e2, stackAddress_target, if_pos rfl]
  · intro a ha
    have h0 := ha (stackAddress s.sp) (by simp)
    have h1 := ha (stackAddress (s.sp - 1)) (by simp)
    have h2 := ha (stackAddress (s.sp - 2)) (by simp)
    rw [stackAddress_target] at h0 h1 h2
    rw [e2, if_neg h2, if_neg h1, if_neg h0]
  · intro lo hi h1 h2
    have key : ∀ a : Word, 0x4020 ≤ a.toNat → ∀ x, s.byteAt a = some x → (u.pushFrame r b).byteAt a = some x := by
      intro a ha x hx
      rw [pushFrame_byteAt]
      have hne : ∀ q, s.target a ≠ s.target (stackAddress q) := by
        intro q hq
        rw [stackAddress_target] at hq
        have := q.isLt
        unfold State.target at hq
        rw [if_neg (by omega), if_neg (by omega), if_neg (by omega), if_neg (by omega)] at hq
        split at hq <;> simp at hq
        omega
      simp only [ht, hsp, hb]
      rw [if_neg (hne _), if_neg (hne _), if_neg (hne _), hx]
    unfold State.enter
    apply loadVector_pc
    · exact (byteAt_congr (s := u.pushFrame r b) rfl rfl _).trans (key _ hv2.1 _ h1)
    · exact (byteAt_congr (s := u.pushFrame r b) rfl rfl _).trans (key _ hv2.2 _ h2)
  · constructor <;> simp <;> rw [h]
  · simp
  · simp; rw [h]
  · simp; rw [h]
  · simp; rw [h]
  · simp; rw [h]
  · simp; rw [h]
  · simp; rw [h]
  · simp; rw [h]
  · have hbus : u.bus = lead ++ s.bus := by rw [h]
    rw [enter_bus, hsp, hp, hbus]

/-! ## The reset sequence -/

@[simp] theorem resetSequence_a : s.resetSequence.a = s.a := by simp [State.resetSequence]
@[simp] theorem resetSequence_x : s.resetSequence.x = s.x := by simp [State.resetSequence]
@[simp] theorem resetSequence_y : s.resetSequence.y = s.y := by simp [State.resetSequence]
@[simp] theorem resetSequence_mem : s.resetSequence.mem = s.mem := by simp [State.resetSequence]
@[simp] theorem resetSequence_cart : s.resetSequence.cart = s.cart := by simp [State.resetSequence]
@[simp] theorem resetSequence_outLatch : s.resetSequence.outLatch = s.outLatch := by simp [State.resetSequence]
@[simp] theorem resetSequence_irqLine : s.resetSequence.irqLine = s.irqLine := by simp [State.resetSequence]
@[simp] theorem resetSequence_nmiLine : s.resetSequence.nmiLine = s.nmiLine := by simp [State.resetSequence]
@[simp] theorem resetSequence_rstLine : s.resetSequence.rstLine = s.rstLine := by simp [State.resetSequence]
@[simp] theorem resetSequence_rstMid : s.resetSequence.rstMid = s.rstMid := by simp [State.resetSequence]
@[simp] theorem resetSequence_schedule : s.resetSequence.schedule = s.schedule := by simp [State.resetSequence]
@[simp] theorem resetSequence_sp : s.resetSequence.sp = s.sp - 3 := by simp [State.resetSequence]
@[simp] theorem resetSequence_p : s.resetSequence.p = { s.p with i := true } := by simp [State.resetSequence]
@[simp] theorem resetSequence_iPoll : s.resetSequence.iPoll = true := by simp [State.resetSequence]
@[simp] theorem resetSequence_jammed : s.resetSequence.jammed = false := by simp [State.resetSequence]
@[simp] theorem resetSequence_nmiPending : s.resetSequence.nmiPending = false := by simp [State.resetSequence]
@[simp] theorem resetSequence_resetPending : s.resetSequence.resetPending = false := by simp [State.resetSequence]
@[simp] theorem resetSequence_bus : s.resetSequence.bus =
    [.read 0xFFFD, .read 0xFFFC, .read (stackAddress (s.sp - 2)), .read (stackAddress (s.sp - 1)),
      .read (stackAddress s.sp), .read s.pc, .read s.pc] ++ s.bus := by
  simp [State.resetSequence, resetVector]

/-! ## The environment's pin events -/

/-- Everything a pin event can do. -/
theorem pin_eq (e : PinEvent) : s.pin e = { s with
    irqLine := (s.pin e).irqLine
    nmiLine := (s.pin e).nmiLine
    nmiPending := (s.pin e).nmiPending
    nmiMid := (s.pin e).nmiMid
    rstLine := (s.pin e).rstLine
    rstMid := (s.pin e).rstMid
    resetPending := (s.pin e).resetPending } := by
  cases e <;> rfl

/-- Everything a list of pin events can do. -/
theorem pins_eq (es : List PinEvent) (s : State) : es.foldl State.pin s = { s with
    irqLine := (es.foldl State.pin s).irqLine
    nmiLine := (es.foldl State.pin s).nmiLine
    nmiPending := (es.foldl State.pin s).nmiPending
    nmiMid := (es.foldl State.pin s).nmiMid
    rstLine := (es.foldl State.pin s).rstLine
    rstMid := (es.foldl State.pin s).rstMid
    resetPending := (es.foldl State.pin s).resetPending } := by
  induction es generalizing s with
  | nil => rfl
  | cons e es ih => rw [List.foldl_cons, ih, pin_eq]

/-- Everything the environment can do before a step. -/
theorem environment_eq : s.environment = { s with
    irqLine := s.environment.irqLine
    nmiLine := s.environment.nmiLine
    nmiPending := s.environment.nmiPending
    nmiMid := s.environment.nmiMid
    rstLine := s.environment.rstLine
    rstMid := s.environment.rstMid
    resetPending := s.environment.resetPending
    schedule := s.environment.schedule } := by
  unfold State.environment
  split
  · rfl
  · rw [pins_eq]

@[simp] theorem environment_a : s.environment.a = s.a := by rw [environment_eq]
@[simp] theorem environment_x : s.environment.x = s.x := by rw [environment_eq]
@[simp] theorem environment_y : s.environment.y = s.y := by rw [environment_eq]
@[simp] theorem environment_sp : s.environment.sp = s.sp := by rw [environment_eq]
@[simp] theorem environment_pc : s.environment.pc = s.pc := by rw [environment_eq]
@[simp] theorem environment_p : s.environment.p = s.p := by rw [environment_eq]
@[simp] theorem environment_iPoll : s.environment.iPoll = s.iPoll := by rw [environment_eq]
@[simp] theorem environment_jammed : s.environment.jammed = s.jammed := by rw [environment_eq]
@[simp] theorem environment_mem : s.environment.mem = s.mem := by rw [environment_eq]
@[simp] theorem environment_cart : s.environment.cart = s.cart := by rw [environment_eq]
@[simp] theorem environment_apu : s.environment.apu = s.apu := by rw [environment_eq]
@[simp] theorem environment_outLatch : s.environment.outLatch = s.outLatch := by rw [environment_eq]
@[simp] theorem environment_inputs : s.environment.inputs = s.inputs := by rw [environment_eq]
@[simp] theorem environment_draws : s.environment.draws = s.draws := by rw [environment_eq]
@[simp] theorem environment_bus : s.environment.bus = s.bus := by rw [environment_eq]
@[simp] theorem environment_byteAt (c : Word) : s.environment.byteAt c = s.byteAt c :=
  byteAt_congr (environment_mem s) (environment_cart s) c

/-! ## The fetch -/

/-- Everything a fetch can do: read cycles. -/
theorem fetch_eq : s.fetch.2 = { s with
    bus := s.fetch.2.bus, inputs := s.fetch.2.inputs, draws := s.fetch.2.draws } := by
  unfold State.fetch
  simp only
  split
  · rfl
  · rfl
  · split <;> rfl

@[simp] theorem fetch_a : s.fetch.2.a = s.a := by rw [fetch_eq]
@[simp] theorem fetch_x : s.fetch.2.x = s.x := by rw [fetch_eq]
@[simp] theorem fetch_y : s.fetch.2.y = s.y := by rw [fetch_eq]
@[simp] theorem fetch_sp : s.fetch.2.sp = s.sp := by rw [fetch_eq]
@[simp] theorem fetch_pc : s.fetch.2.pc = s.pc := by rw [fetch_eq]
@[simp] theorem fetch_p : s.fetch.2.p = s.p := by rw [fetch_eq]
@[simp] theorem fetch_iPoll : s.fetch.2.iPoll = s.iPoll := by rw [fetch_eq]
@[simp] theorem fetch_jammed : s.fetch.2.jammed = s.jammed := by rw [fetch_eq]
@[simp] theorem fetch_irqLine : s.fetch.2.irqLine = s.irqLine := by rw [fetch_eq]
@[simp] theorem fetch_nmiLine : s.fetch.2.nmiLine = s.nmiLine := by rw [fetch_eq]
@[simp] theorem fetch_nmiPending : s.fetch.2.nmiPending = s.nmiPending := by rw [fetch_eq]
@[simp] theorem fetch_nmiMid : s.fetch.2.nmiMid = s.nmiMid := by rw [fetch_eq]
@[simp] theorem fetch_rstLine : s.fetch.2.rstLine = s.rstLine := by rw [fetch_eq]
@[simp] theorem fetch_rstMid : s.fetch.2.rstMid = s.rstMid := by rw [fetch_eq]
@[simp] theorem fetch_resetPending : s.fetch.2.resetPending = s.resetPending := by rw [fetch_eq]
@[simp] theorem fetch_schedule : s.fetch.2.schedule = s.schedule := by rw [fetch_eq]
@[simp] theorem fetch_mem : s.fetch.2.mem = s.mem := by rw [fetch_eq]
@[simp] theorem fetch_cart : s.fetch.2.cart = s.cart := by rw [fetch_eq]
@[simp] theorem fetch_apu : s.fetch.2.apu = s.apu := by rw [fetch_eq]
@[simp] theorem fetch_outLatch : s.fetch.2.outLatch = s.outLatch := by rw [fetch_eq]
@[simp] theorem fetch_byteAt (c : Word) : s.fetch.2.byteAt c = s.byteAt c :=
  byteAt_congr (fetch_mem s) (fetch_cart s) c

/-! ## The invariant -/

/-- The invariant is about the RAM and the cartridge only. -/
theorem inv_congr {s t : State} (hm : t.mem = s.mem) (hc : t.cart = s.cart) (h : s.Inv) : t.Inv where
  memCanonical := by rw [hm]; exact h.memCanonical
  memInRam := fun e he => by
    rw [hm] at he
    have := h.memInRam e he
    unfold State.isRamCell at *
    rw [hc]; exact this
  romCanonical := by rw [hc]; exact h.romCanonical

/-- Every write cycle keeps the invariant. -/
theorem writeCycle_inv {s : State} (h : s.Inv) (a : Word) (v : Byte) : (s.writeCycle a v).Inv where
  memCanonical := by
    show Memory.Wf none (s.memAfter a v)
    unfold State.memAfter
    split
    · exact memStore_wf _ _ h.memCanonical
    · exact h.memCanonical
  memInRam := fun e he => by
    show s.isRamCell e.1 = true
    have he : e ∈ s.memAfter a v := he
    obtain ⟨w, hw⟩ : ∃ w, s.target a = w := ⟨_, rfl⟩
    cases w <;> simp only [State.memAfter, hw] at he <;> try exact h.memInRam e he
    rename_i c
    rw [memStore_none] at he
    rcases mem_memInsert he with rfl | he
    · unfold State.target at hw
      unfold State.isRamCell
      split at hw
      · cases hw; simp only [Bool.or_eq_true, decide_eq_true_eq]; left; omega
      · split at hw
        · cases hw
        · split at hw
          · cases hw
          · split at hw
            · cases hw
            · have hlt := a.isLt
              cases hk : s.cart.kindAt a.toNat <;> rw [hk] at hw <;> cases hw
              simp only [Bool.or_eq_true, Bool.and_eq_true, decide_eq_true_eq, beq_iff_eq]
              exact .inr ⟨⟨by omega, hlt⟩, hk⟩
    · exact h.memInRam e he
  romCanonical := h.romCanonical

/-- Every push keeps the invariant. -/
theorem push_inv {s : State} (h : s.Inv) (v : Byte) : (s.push v).Inv :=
  inv_congr (s := s.writeCycle (stackAddress s.sp) v) rfl rfl (writeCycle_inv h _ v)

/-- Every store keeps the invariant. -/
theorem stored_inv {s : State} (h : s.Inv) (m : Mode) (v : Byte) : (s.stored m v).Inv :=
  inv_congr (s := s.writeCycle (s.ea m) v) (by rw [stored_eq]; rfl) (by simp) (writeCycle_inv h _ v)

/-- Every read-modify-write keeps the invariant. -/
theorem modified_inv {s : State} (h : s.Inv) (m : Mode) (v : Byte) : (s.modified m v).Inv :=
  inv_congr (s := (s.writeCycle (s.ea m) (s.modifyOld m)).writeCycle (s.ea m) v) (by rw [modified_eq]) (by simp)
    (writeCycle_inv (writeCycle_inv h _ _) _ v)

/-- Every interrupt entry keeps the invariant. -/
theorem enter_inv {s : State} (h : s.Inv) (r : Word) (b : Bool) (v : Word) : (s.enter r b v).Inv :=
  inv_congr (s := s.pushFrame r b) (enter_mem s r b v) (by simp) (push_inv (push_inv (push_inv h _) _) _)

/-! ## A reset in the middle of a step -/

/-- A bus cycle again leaves all but the memory, the devices, the history and the answers. -/
theorem cycle_eq (c : BusCycle) : s.cycle c = { s with
    mem := (s.cycle c).mem
    apu := (s.cycle c).apu
    outLatch := (s.cycle c).outLatch
    inputs := (s.cycle c).inputs
    draws := (s.cycle c).draws
    bus := c :: s.bus } := by
  cases c <;> rfl

/-- Bus cycles again leave all but the memory, the devices, the history and the answers. -/
theorem cycles_eq (cs : List BusCycle) (s : State) : cs.foldl State.cycle s = { s with
    mem := (cs.foldl State.cycle s).mem
    apu := (cs.foldl State.cycle s).apu
    outLatch := (cs.foldl State.cycle s).outLatch
    inputs := (cs.foldl State.cycle s).inputs
    draws := (cs.foldl State.cycle s).draws
    bus := cs.reverse ++ s.bus } := by
  induction cs generalizing s with
  | nil => rfl
  | cons c cs ih => rw [List.foldl_cons, ih, cycle_eq]; simp

/-- A bus cycle again keeps the invariant. -/
theorem cycle_inv {s : State} (h : s.Inv) : (c : BusCycle) → (s.cycle c).Inv
  | .read _ => inv_congr (s := s) rfl rfl h
  | .write a v => writeCycle_inv h a v

/-- Bus cycles again keep the invariant. -/
theorem cycles_inv (cs : List BusCycle) {s : State} (h : s.Inv) : (cs.foldl State.cycle s).Inv := by
  induction cs generalizing s with
  | nil => exact h
  | cons c cs ih => exact ih (cycle_inv h c)

/-- What bus cycles leave of each byte. -/
theorem cycles_byteAt (cs : List BusCycle) (s : State) (a : Word) :
    (cs.foldl State.cycle s).byteAt a = s.storedBy cs a := by
  suffices h : ∀ (u : State) (old : Option Byte), (∀ b, u.target b = s.target b) → u.byteAt a = old →
      (cs.foldl State.cycle u).byteAt a = cs.foldl (fun old c => match c with
        | .read _ => old
        | .write w v => if s.ramAt w ∧ s.target a = s.target w then some v else old) old from
    h s _ (fun _ => rfl) rfl
  induction cs with
  | nil => exact fun _ _ _ h => h
  | cons c cs ih =>
    intro u old ht hb
    rw [List.foldl_cons, List.foldl_cons]
    cases c with
    | read b => exact ih _ _ ht hb
    | write w v =>
      refine ih _ _ ht ?_
      show (u.writeCycle w v).byteAt a = _
      have hr : u.ramAt w = s.ramAt w := by unfold State.ramAt; rw [ht]
      rw [writeCycle_byteAt, hb, ht, ht, hr]

/-- What an abandoned step can do: it is whole, or it leaves what its first `k` bus cycles leave, with A, X, Y, `pc` and
the pins as before it and /RST low (R305, R351). -/
theorem cutAfter_cases (s : State) (k : Nat) (t : State) :
    ((s.cyclesTo t).length ≤ k ∧ s.cutAfter k t = { t with rstLine := false, rstMid := none }) ∨
    (k < (s.cyclesTo t).length ∧ s.cutAfter k t = { (((s.cyclesTo t).take k).foldl State.cycle s) with
      sp := s.stackAfter k
      p := s.flagsAfter k t
      nmiPending := s.nmiPending || s.nmiMid
      nmiMid := false
      rstLine := false
      rstMid := none }) := by
  unfold State.cutAfter
  split
  · exact .inl ⟨‹_›, rfl⟩
  · refine .inr ⟨by omega, ?_⟩
    rw [cycles_eq]; rfl

/-- An abandoned step keeps the invariant. -/
theorem cutAfter_inv {s t : State} (hs : s.Inv) (ht : t.Inv) (k : Nat) : (s.cutAfter k t).Inv := by
  rcases cutAfter_cases s k t with ⟨_, h⟩ | ⟨_, h⟩ <;> rw [h]
  · exact inv_congr (s := t) rfl rfl ht
  · exact inv_congr (s := ((s.cyclesTo t).take k).foldl State.cycle s) rfl rfl (cycles_inv _ hs)

end Sys2Proof.Machine
end

