-- ==== Sys2Proof/Laws/Step.lean ====
section
/-! SUPPORT. What a step can do, said once (Machine/Step.lean), what an opcode byte's shape says of the encoding, and
the fields after a branch and after the store of the unstable opcodes. -/

namespace Sys2Proof.Machine

/-- The model's treatment declines the seven unstable opcodes and no other (R250). -/
theorem declinesOpcode_treatment (op : Byte) : declinesOpcode Config.treatment op = decide (op ∈ unstableOpcodes) := by
  unfold declinesOpcode opcodeKind
  split_ifs <;> simp_all [admitsKind, Config.treatment, Treatment.ofSpec]

/-- Everything an instruction step can answer: it refuses an unstable opcode and runs any other (R250, log 1). -/
theorem runInstruction_eq (s : State) : s.runInstruction =
    if s.busRead s.pc ∈ unstableOpcodes then .refused (.declined (s.busRead s.pc)) else exec s.fetch.1 s.fetch.2 := by
  unfold State.runInstruction State.runInstructionUnder
  simp only [declinesOpcode_treatment, decide_eq_true_eq]

/-- Where another opcode than an unstable one is at `pc`, an instruction step is the fetched instruction. -/
theorem runInstruction_of_stable {s : State} (h : s.busRead s.pc ∉ unstableOpcodes) :
    s.runInstruction = exec s.fetch.1 s.fetch.2 := by
  rw [runInstruction_eq, if_neg h]

/-- Everything a boundary can answer: held or stuck, a reset sequence, an interrupt entry, or the fetched instruction. -/
theorem boundary_cases {s t : State} (h : s.boundary = .next t) :
    t = s.latchNmi ∨ t = s.resetSequence ∨ (∃ v, t = s.latchNmi.interrupt v) ∨
    exec s.latchNmi.fetch.1 s.latchNmi.fetch.2 = .next t := by
  unfold State.boundary at h
  split_ifs at h
  · exact .inl (Host.Outcome.next.inj h).symm
  · exact .inr (.inl (Host.Outcome.next.inj h).symm)
  · exact .inl (Host.Outcome.next.inj h).symm
  · exact .inr (.inr (.inl ⟨_, (Host.Outcome.next.inj h).symm⟩))
  · exact .inr (.inr (.inl ⟨_, (Host.Outcome.next.inj h).symm⟩))
  · rw [runInstruction_eq] at h
    split at h
    · cases h
    · exact .inr (.inr (.inr h))

/-- Where /RST does not fall inside the step, the step is the boundary. -/
theorem step_of_uncut {s : State} (h : s.environment.rstMid = none) : step s = s.environment.boundary := by
  unfold step State.boundaryOrCut; rw [h]

/-- Everything a step can answer: what a boundary answers, or that abandoned after some of its bus cycles (R351). -/
theorem step_cases {s t : State} (h : step s = .next t) :
    (s.environment.rstMid = none ∧ s.environment.boundary = .next t) ∨
    (∃ k u, s.environment.rstMid = some k ∧ { s.environment with rstMid := none }.boundary = .next u ∧
      t = { s.environment with rstMid := none }.cutAfter k u) ∨
    t = { s.environment.latchNmi with rstLine := false, rstMid := none } := by
  unfold step State.boundaryOrCut at h
  split at h
  · exact .inl ⟨‹_›, h⟩
  · split at h
    · cases h; exact .inr (.inl ⟨_, _, ‹_›, ‹_›, rfl⟩)
    · cases h
    · split at h <;> cases h
      exact .inr (.inr rfl)

/-- Where nothing else is due, the step is an instruction. -/
theorem step_of_not_busy {s : State} (h : s.environment.busy = false) :
    step s = s.environment.latchNmi.runInstruction := by
  have hm : s.environment.rstMid = none := by
    simp only [State.busy, Bool.or_eq_false_iff] at h
    simpa using h.1.1.1.1.2
  rw [step_of_uncut hm]
  generalize s.environment = e at *
  simp only [State.busy, Bool.or_eq_false_iff, Bool.and_eq_false_iff, Bool.not_eq_false'] at h
  unfold State.boundary
  obtain ⟨⟨⟨⟨⟨h1, _⟩, h2⟩, h3⟩, h4⟩, h5⟩ := h
  rcases h5 with h5 | h5 <;> simp [h1, h2, h3, h4, h5]

/-- Every run has an outcome. -/
theorem runEnds_exists (e : EndOfRun) (n : Nat) (s : State) : ∃ o, s.RunEnds e n o := by
  by_cases hc : s.Completes e n
  · exact ⟨.completed, hc⟩
  · cases hr : core.run n s with
    | next t =>
      by_cases ht : State.Stuck t
      · exact ⟨.stuck, hc, t, hr, ht⟩
      · exact ⟨.running, hc, t, hr, ht⟩
    | fault f => exact nomatch (show Fault from f)
    | refused r => exact ⟨.refused, hc, r, hr⟩

/-- A run has one outcome. -/
theorem runEnds_unique {e : EndOfRun} {n : Nat} {s : State} {o o' : RunOutcome} (h : s.RunEnds e n o)
    (h' : s.RunEnds e n o') : o = o' := by
  cases o <;> cases o' <;> first
    | rfl
    | exact absurd h h'.1
    | exact absurd h' h.1
    | (obtain ⟨_, _, h1⟩ := h
       obtain ⟨_, _, h2⟩ := h'
       simp_all)

/-- With no pin event scheduled the environment does nothing. -/
theorem environment_nil {s : State} (h : s.schedule = []) : s.environment = s := by
  unfold State.environment; rw [h]

/-- With no fall of /NMI inside the step there is nothing to latch. -/
theorem latchNmi_of_not_mid {s : State} (h : s.nmiMid = false) : s.latchNmi = s := by
  unfold State.latchNmi; cases s; simp_all

theorem latchNmi_readCycle (s : State) (a : Word) : s.latchNmi.readCycle a = (s.readCycle a).latchNmi := rfl

/-- Where storage answers, a read cycle only records itself. -/
theorem readCycle_of_byteAt {s : State} {a : Word} {b : Byte} (h : s.byteAt a = some b) :
    s.readCycle a = { s with bus := .read a :: s.bus } := by
  unfold State.readCycle; rw [h]; rfl

/-- What an opcode byte's shape says of the encoding of what it builds. -/
def ShapeEncodes (op : Byte) : Prop :=
  match opcodeShape op with
  | .plain i => encode i = [op] ∧ op ≠ 0x20
  | .byte f => (∀ b, encode (f b) = [op, b]) ∧ op ≠ 0x20
  | .word f => ∀ w, encode (f w) = [op, loByte w, hiByte w]

theorem shapeEncodes_all : ∀ n : Fin 256, ShapeEncodes (BitVec.ofFin n) := by
  intro n
  fin_cases n <;> first | exact fun _ => rfl | exact ⟨fun _ => rfl, by decide⟩ | exact ⟨rfl, by decide⟩

/-- Every opcode byte's shape builds instructions that encode to that byte and their operand (R101, R119). -/
theorem shapeEncodes (op : Byte) : ShapeEncodes op := shapeEncodes_all op.toFin

/-- Everything a branch can do: PC, `i_poll` and read cycles (R210, R375). -/
theorem branchIf_eq (c : Bool) (r : Byte) (s : State) : branchIf c r s = { s with
    pc := if c then branchTarget s.pc r else s.pc + 2
    iPoll := s.p.i
    bus := (branchIf c r s).bus
    inputs := (branchIf c r s).inputs
    draws := (branchIf c r s).draws } := by
  unfold branchIf
  cases c
  · rfl
  · by_cases h : hiByte (branchTarget s.pc r) = hiByte (s.pc + 2) <;> simp only [h] <;> rfl

/-- Everything the store of an unstable opcode can do: draws, the mode's read cycles and one write cycle, at the
effective address unless an index crossed the page (log 2, log 29). -/
theorem unstableStored_eq (s : State) (m : Mode) : ∃ w v i d, (s.pageCross m = false → w = s.ea m) ∧
    loByte w = loByte (s.ea m) ∧
    s.unstableStored m = { (s.addressed m .write).writeCycle w v with inputs := i, draws := d } := by
  unfold State.unstableStored
  simp only
  split
  · rename_i h
    exact ⟨_, _, _, _, by simp [h], by simp, rfl⟩
  · exact ⟨_, _, _, _, fun _ => rfl, rfl, rfl⟩

/-- A page cross as arithmetic: the carry out of the low byte (R111). -/
theorem crossing_iff (b : Word) (i : Byte) :
    (hiByte (b + zext16 i) != hiByte b) = decide (256 ≤ b.toNat % 256 + i.toNat) := by
  have hb := b.isLt
  have hi := i.isLt
  have : hiByte (b + zext16 i) = hiByte b ↔ ¬ (256 ≤ b.toNat % 256 + i.toNat) := by
    rw [← BitVec.toNat_inj, hiByte_toNat, hiByte_toNat, BitVec.toNat_add, zext16_toNat]
    omega
  by_cases h : 256 ≤ b.toNat % 256 + i.toNat
  · simp [h, this]
  · simp [h, this]

end Sys2Proof.Machine
end

