-- ==== Sys2Proof/Tests/Slice0.lean ====
section
/-! SUPPORT. The author's tests: the ill-formed cartridges that WellFormed.lean refuses, the decoding of every opcode
byte as the Encoding lines of 40_load_store_transfer.md to 46_unofficial.md give it, single steps from the vectors of
95_test_vectors.md, and for every obligation with hypotheses a state and operands that meet them. -/

namespace Sys2Proof.Tests

open Sys2Proof Sys2Proof.Machine

/-! ## Helpers -/

/-- The machine about to fetch at `pc`, with the listed ROM and RAM bytes. -/
def start (pc : Word) (rom ram : Memory) : State :=
  { State.reset with pc := pc, mem := ram, cart := { Cart.empty with rom := rom } }

/-- Whether a step answers a next state of which `P` holds. -/
def after (s : State) (P : State → Bool) : Bool :=
  match step s with
  | .next t => P t
  | _ => false

/-- What `after` says. -/
theorem exists_next_of_after {s : State} {P : State → Bool} (h : after s P = true) :
    ∃ t, step s = .next t ∧ P t = true := by
  unfold after at h
  split at h
  · exact ⟨_, ‹_›, h⟩
  · cases h

/-! ## Well-formedness of the cartridge (R69) -/

/-- A region below $4020 is refused. -/
theorem test_wellFormed_refuses_region_below_cartridge_space :
    Cart.inSpace ⟨[⟨0x401F, 2, .ram⟩, ⟨0x8000, 0x8000, .rom⟩], []⟩ = false ∧
    Cart.wellFormed ⟨[⟨0x401F, 2, .ram⟩, ⟨0x8000, 0x8000, .rom⟩], []⟩ = false := by decide

/-- Vectors that nothing stores are refused. -/
theorem test_wellFormed_refuses_unknown_vectors :
    Cart.vectorsKnown ⟨[⟨0x8000, 0x7FFF, .rom⟩], []⟩ = false ∧
    Cart.wellFormed ⟨[⟨0x8000, 0x7FFF, .rom⟩], []⟩ = false := by decide

/-- A listed ROM byte outside ROM is refused. -/
theorem test_wellFormed_refuses_rom_byte_outside_rom :
    Cart.romInPlace ⟨[⟨0x8000, 0x8000, .rom⟩], [(0x7FFF, 1)]⟩ = false ∧
    Cart.wellFormed ⟨[⟨0x8000, 0x8000, .rom⟩], [(0x7FFF, 1)]⟩ = false := by decide

/-- A ROM list out of order, or listing what an unlisted byte reads as, is refused. -/
theorem test_wellFormed_refuses_rom_list_not_canonical :
    Cart.romCanonical ⟨[⟨0x8000, 0x8000, .rom⟩], [(0x9000, 1), (0x8000, 1)]⟩ = false ∧
    Cart.romCanonical ⟨[⟨0x8000, 0x8000, .rom⟩], [(0x8000, 0)]⟩ = false ∧
    Cart.wellFormed ⟨[⟨0x8000, 0x8000, .rom⟩], [(0x8000, 0)]⟩ = false := by decide

theorem test_wellFormed_accepts_cartridge_with_ram :
    Cart.wellFormed ⟨[⟨0x6000, 0x2000, .ram⟩, ⟨0x8000, 0x8000, .rom⟩], [(0xFFFD, 0x80)]⟩ = true := by decide

/-! ## Decoding, from the Encoding line of each rule -/

theorem test_decode_row0 :
    decode [0x00] = .ok (.brk, []) ∧
    decode [0x01, 0x9A] = .ok (.oraIzx 0x9A, []) ∧
    decode [0x02] = .ok (.jam02, []) ∧
    decode [0x03, 0x9A] = .ok (.sloIzx 0x9A, []) ∧
    decode [0x04, 0x9A] = .ok (.nopZp04 0x9A, []) ∧
    decode [0x05, 0x9A] = .ok (.oraZp 0x9A, []) ∧
    decode [0x06, 0x9A] = .ok (.aslZp 0x9A, []) ∧
    decode [0x07, 0x9A] = .ok (.sloZp 0x9A, []) ∧
    decode [0x08] = .ok (.php, []) ∧
    decode [0x09, 0x9A] = .ok (.oraImm 0x9A, []) ∧
    decode [0x0A] = .ok (.aslAcc, []) ∧
    decode [0x0B, 0x9A] = .ok (.ancImm0B 0x9A, []) ∧
    decode [0x0C, 0x34, 0x12] = .ok (.nopAbs 0x1234, []) ∧
    decode [0x0D, 0x34, 0x12] = .ok (.oraAbs 0x1234, []) ∧
    decode [0x0E, 0x34, 0x12] = .ok (.aslAbs 0x1234, []) ∧
    decode [0x0F, 0x34, 0x12] = .ok (.sloAbs 0x1234, []) :=
  ⟨rfl, rfl, rfl, rfl, rfl, rfl, rfl, rfl, rfl, rfl, rfl, rfl, rfl, rfl, rfl, rfl⟩

theorem test_decode_row1 :
    decode [0x10, 0x9A] = .ok (.bplRel 0x9A, []) ∧
    decode [0x11, 0x9A] = .ok (.oraIzy 0x9A, []) ∧
    decode [0x12] = .ok (.jam12, []) ∧
    decode [0x13, 0x9A] = .ok (.sloIzy 0x9A, []) ∧
    decode [0x14, 0x9A] = .ok (.nopZpx14 0x9A, []) ∧
    decode [0x15, 0x9A] = .ok (.oraZpx 0x9A, []) ∧
    decode [0x16, 0x9A] = .ok (.aslZpx 0x9A, []) ∧
    decode [0x17, 0x9A] = .ok (.sloZpx 0x9A, []) ∧
    decode [0x18] = .ok (.clc, []) ∧
    decode [0x19, 0x34, 0x12] = .ok (.oraAby 0x1234, []) ∧
    decode [0x1A] = .ok (.nop1A, []) ∧
    decode [0x1B, 0x34, 0x12] = .ok (.sloAby 0x1234, []) ∧
    decode [0x1C, 0x34, 0x12] = .ok (.nopAbx1C 0x1234, []) ∧
    decode [0x1D, 0x34, 0x12] = .ok (.oraAbx 0x1234, []) ∧
    decode [0x1E, 0x34, 0x12] = .ok (.aslAbx 0x1234, []) ∧
    decode [0x1F, 0x34, 0x12] = .ok (.sloAbx 0x1234, []) :=
  ⟨rfl, rfl, rfl, rfl, rfl, rfl, rfl, rfl, rfl, rfl, rfl, rfl, rfl, rfl, rfl, rfl⟩

theorem test_decode_row2 :
    decode [0x20, 0x34, 0x12] = .ok (.jsrAbs 0x1234, []) ∧
    decode [0x21, 0x9A] = .ok (.andIzx 0x9A, []) ∧
    decode [0x22] = .ok (.jam22, []) ∧
    decode [0x23, 0x9A] = .ok (.rlaIzx 0x9A, []) ∧
    decode [0x24, 0x9A] = .ok (.bitZp 0x9A, []) ∧
    decode [0x25, 0x9A] = .ok (.andZp 0x9A, []) ∧
    decode [0x26, 0x9A] = .ok (.rolZp 0x9A, []) ∧
    decode [0x27, 0x9A] = .ok (.rlaZp 0x9A, []) ∧
    decode [0x28] = .ok (.plp, []) ∧
    decode [0x29, 0x9A] = .ok (.andImm 0x9A, []) ∧
    decode [0x2A] = .ok (.rolAcc, []) ∧
    decode [0x2B, 0x9A] = .ok (.ancImm2B 0x9A, []) ∧
    decode [0x2C, 0x34, 0x12] = .ok (.bitAbs 0x1234, []) ∧
    decode [0x2D, 0x34, 0x12] = .ok (.andAbs 0x1234, []) ∧
    decode [0x2E, 0x34, 0x12] = .ok (.rolAbs 0x1234, []) ∧
    decode [0x2F, 0x34, 0x12] = .ok (.rlaAbs 0x1234, []) :=
  ⟨rfl, rfl, rfl, rfl, rfl, rfl, rfl, rfl, rfl, rfl, rfl, rfl, rfl, rfl, rfl, rfl⟩

theorem test_decode_row3 :
    decode [0x30, 0x9A] = .ok (.bmiRel 0x9A, []) ∧
    decode [0x31, 0x9A] = .ok (.andIzy 0x9A, []) ∧
    decode [0x32] = .ok (.jam32, []) ∧
    decode [0x33, 0x9A] = .ok (.rlaIzy 0x9A, []) ∧
    decode [0x34, 0x9A] = .ok (.nopZpx34 0x9A, []) ∧
    decode [0x35, 0x9A] = .ok (.andZpx 0x9A, []) ∧
    decode [0x36, 0x9A] = .ok (.rolZpx 0x9A, []) ∧
    decode [0x37, 0x9A] = .ok (.rlaZpx 0x9A, []) ∧
    decode [0x38] = .ok (.sec, []) ∧
    decode [0x39, 0x34, 0x12] = .ok (.andAby 0x1234, []) ∧
    decode [0x3A] = .ok (.nop3A, []) ∧
    decode [0x3B, 0x34, 0x12] = .ok (.rlaAby 0x1234, []) ∧
    decode [0x3C, 0x34, 0x12] = .ok (.nopAbx3C 0x1234, []) ∧
    decode [0x3D, 0x34, 0x12] = .ok (.andAbx 0x1234, []) ∧
    decode [0x3E, 0x34, 0x12] = .ok (.rolAbx 0x1234, []) ∧
    decode [0x3F, 0x34, 0x12] = .ok (.rlaAbx 0x1234, []) :=
  ⟨rfl, rfl, rfl, rfl, rfl, rfl, rfl, rfl, rfl, rfl, rfl, rfl, rfl, rfl, rfl, rfl⟩

theorem test_decode_row4 :
    decode [0x40] = .ok (.rti, []) ∧
    decode [0x41, 0x9A] = .ok (.eorIzx 0x9A, []) ∧
    decode [0x42] = .ok (.jam42, []) ∧
    decode [0x43, 0x9A] = .ok (.sreIzx 0x9A, []) ∧
    decode [0x44, 0x9A] = .ok (.nopZp44 0x9A, []) ∧
    decode [0x45, 0x9A] = .ok (.eorZp 0x9A, []) ∧
    decode [0x46, 0x9A] = .ok (.lsrZp 0x9A, []) ∧
    decode [0x47, 0x9A] = .ok (.sreZp 0x9A, []) ∧
    decode [0x48] = .ok (.pha, []) ∧
    decode [0x49, 0x9A] = .ok (.eorImm 0x9A, []) ∧
    decode [0x4A] = .ok (.lsrAcc, []) ∧
    decode [0x4B, 0x9A] = .ok (.alrImm 0x9A, []) ∧
    decode [0x4C, 0x34, 0x12] = .ok (.jmpAbs 0x1234, []) ∧
    decode [0x4D, 0x34, 0x12] = .ok (.eorAbs 0x1234, []) ∧
    decode [0x4E, 0x34, 0x12] = .ok (.lsrAbs 0x1234, []) ∧
    decode [0x4F, 0x34, 0x12] = .ok (.sreAbs 0x1234, []) :=
  ⟨rfl, rfl, rfl, rfl, rfl, rfl, rfl, rfl, rfl, rfl, rfl, rfl, rfl, rfl, rfl, rfl⟩

theorem test_decode_row5 :
    decode [0x50, 0x9A] = .ok (.bvcRel 0x9A, []) ∧
    decode [0x51, 0x9A] = .ok (.eorIzy 0x9A, []) ∧
    decode [0x52] = .ok (.jam52, []) ∧
    decode [0x53, 0x9A] = .ok (.sreIzy 0x9A, []) ∧
    decode [0x54, 0x9A] = .ok (.nopZpx54 0x9A, []) ∧
    decode [0x55, 0x9A] = .ok (.eorZpx 0x9A, []) ∧
    decode [0x56, 0x9A] = .ok (.lsrZpx 0x9A, []) ∧
    decode [0x57, 0x9A] = .ok (.sreZpx 0x9A, []) ∧
    decode [0x58] = .ok (.cli, []) ∧
    decode [0x59, 0x34, 0x12] = .ok (.eorAby 0x1234, []) ∧
    decode [0x5A] = .ok (.nop5A, []) ∧
    decode [0x5B, 0x34, 0x12] = .ok (.sreAby 0x1234, []) ∧
    decode [0x5C, 0x34, 0x12] = .ok (.nopAbx5C 0x1234, []) ∧
    decode [0x5D, 0x34, 0x12] = .ok (.eorAbx 0x1234, []) ∧
    decode [0x5E, 0x34, 0x12] = .ok (.lsrAbx 0x1234, []) ∧
    decode [0x5F, 0x34, 0x12] = .ok (.sreAbx 0x1234, []) :=
  ⟨rfl, rfl, rfl, rfl, rfl, rfl, rfl, rfl, rfl, rfl, rfl, rfl, rfl, rfl, rfl, rfl⟩

theorem test_decode_row6 :
    decode [0x60] = .ok (.rts, []) ∧
    decode [0x61, 0x9A] = .ok (.adcIzx 0x9A, []) ∧
    decode [0x62] = .ok (.jam62, []) ∧
    decode [0x63, 0x9A] = .ok (.rraIzx 0x9A, []) ∧
    decode [0x64, 0x9A] = .ok (.nopZp64 0x9A, []) ∧
    decode [0x65, 0x9A] = .ok (.adcZp 0x9A, []) ∧
    decode [0x66, 0x9A] = .ok (.rorZp 0x9A, []) ∧
    decode [0x67, 0x9A] = .ok (.rraZp 0x9A, []) ∧
    decode [0x68] = .ok (.pla, []) ∧
    decode [0x69, 0x9A] = .ok (.adcImm 0x9A, []) ∧
    decode [0x6A] = .ok (.rorAcc, []) ∧
    decode [0x6B, 0x9A] = .ok (.arrImm 0x9A, []) ∧
    decode [0x6C, 0x34, 0x12] = .ok (.jmpInd 0x1234, []) ∧
    decode [0x6D, 0x34, 0x12] = .ok (.adcAbs 0x1234, []) ∧
    decode [0x6E, 0x34, 0x12] = .ok (.rorAbs 0x1234, []) ∧
    decode [0x6F, 0x34, 0x12] = .ok (.rraAbs 0x1234, []) :=
  ⟨rfl, rfl, rfl, rfl, rfl, rfl, rfl, rfl, rfl, rfl, rfl, rfl, rfl, rfl, rfl, rfl⟩

theorem test_decode_row7 :
    decode [0x70, 0x9A] = .ok (.bvsRel 0x9A, []) ∧
    decode [0x71, 0x9A] = .ok (.adcIzy 0x9A, []) ∧
    decode [0x72] = .ok (.jam72, []) ∧
    decode [0x73, 0x9A] = .ok (.rraIzy 0x9A, []) ∧
    decode [0x74, 0x9A] = .ok (.nopZpx74 0x9A, []) ∧
    decode [0x75, 0x9A] = .ok (.adcZpx 0x9A, []) ∧
    decode [0x76, 0x9A] = .ok (.rorZpx 0x9A, []) ∧
    decode [0x77, 0x9A] = .ok (.rraZpx 0x9A, []) ∧
    decode [0x78] = .ok (.sei, []) ∧
    decode [0x79, 0x34, 0x12] = .ok (.adcAby 0x1234, []) ∧
    decode [0x7A] = .ok (.nop7A, []) ∧
    decode [0x7B, 0x34, 0x12] = .ok (.rraAby 0x1234, []) ∧
    decode [0x7C, 0x34, 0x12] = .ok (.nopAbx7C 0x1234, []) ∧
    decode [0x7D, 0x34, 0x12] = .ok (.adcAbx 0x1234, []) ∧
    decode [0x7E, 0x34, 0x12] = .ok (.rorAbx 0x1234, []) ∧
    decode [0x7F, 0x34, 0x12] = .ok (.rraAbx 0x1234, []) :=
  ⟨rfl, rfl, rfl, rfl, rfl, rfl, rfl, rfl, rfl, rfl, rfl, rfl, rfl, rfl, rfl, rfl⟩

theorem test_decode_row8 :
    decode [0x80, 0x9A] = .ok (.nopImm80 0x9A, []) ∧
    decode [0x81, 0x9A] = .ok (.staIzx 0x9A, []) ∧
    decode [0x82, 0x9A] = .ok (.nopImm82 0x9A, []) ∧
    decode [0x83, 0x9A] = .ok (.saxIzx 0x9A, []) ∧
    decode [0x84, 0x9A] = .ok (.styZp 0x9A, []) ∧
    decode [0x85, 0x9A] = .ok (.staZp 0x9A, []) ∧
    decode [0x86, 0x9A] = .ok (.stxZp 0x9A, []) ∧
    decode [0x87, 0x9A] = .ok (.saxZp 0x9A, []) ∧
    decode [0x88] = .ok (.dey, []) ∧
    decode [0x89, 0x9A] = .ok (.nopImm89 0x9A, []) ∧
    decode [0x8A] = .ok (.txa, []) ∧
    decode [0x8B, 0x9A] = .ok (.aneImm 0x9A, []) ∧
    decode [0x8C, 0x34, 0x12] = .ok (.styAbs 0x1234, []) ∧
    decode [0x8D, 0x34, 0x12] = .ok (.staAbs 0x1234, []) ∧
    decode [0x8E, 0x34, 0x12] = .ok (.stxAbs 0x1234, []) ∧
    decode [0x8F, 0x34, 0x12] = .ok (.saxAbs 0x1234, []) :=
  ⟨rfl, rfl, rfl, rfl, rfl, rfl, rfl, rfl, rfl, rfl, rfl, rfl, rfl, rfl, rfl, rfl⟩

theorem test_decode_row9 :
    decode [0x90, 0x9A] = .ok (.bccRel 0x9A, []) ∧
    decode [0x91, 0x9A] = .ok (.staIzy 0x9A, []) ∧
    decode [0x92] = .ok (.jam92, []) ∧
    decode [0x93, 0x9A] = .ok (.shaIzy 0x9A, []) ∧
    decode [0x94, 0x9A] = .ok (.styZpx 0x9A, []) ∧
    decode [0x95, 0x9A] = .ok (.staZpx 0x9A, []) ∧
    decode [0x96, 0x9A] = .ok (.stxZpy 0x9A, []) ∧
    decode [0x97, 0x9A] = .ok (.saxZpy 0x9A, []) ∧
    decode [0x98] = .ok (.tya, []) ∧
    decode [0x99, 0x34, 0x12] = .ok (.staAby 0x1234, []) ∧
    decode [0x9A] = .ok (.txs, []) ∧
    decode [0x9B, 0x34, 0x12] = .ok (.tasAby 0x1234, []) ∧
    decode [0x9C, 0x34, 0x12] = .ok (.shyAbx 0x1234, []) ∧
    decode [0x9D, 0x34, 0x12] = .ok (.staAbx 0x1234, []) ∧
    decode [0x9E, 0x34, 0x12] = .ok (.shxAby 0x1234, []) ∧
    decode [0x9F, 0x34, 0x12] = .ok (.shaAby 0x1234, []) :=
  ⟨rfl, rfl, rfl, rfl, rfl, rfl, rfl, rfl, rfl, rfl, rfl, rfl, rfl, rfl, rfl, rfl⟩

theorem test_decode_rowA :
    decode [0xA0, 0x9A] = .ok (.ldyImm 0x9A, []) ∧
    decode [0xA1, 0x9A] = .ok (.ldaIzx 0x9A, []) ∧
    decode [0xA2, 0x9A] = .ok (.ldxImm 0x9A, []) ∧
    decode [0xA3, 0x9A] = .ok (.laxIzx 0x9A, []) ∧
    decode [0xA4, 0x9A] = .ok (.ldyZp 0x9A, []) ∧
    decode [0xA5, 0x9A] = .ok (.ldaZp 0x9A, []) ∧
    decode [0xA6, 0x9A] = .ok (.ldxZp 0x9A, []) ∧
    decode [0xA7, 0x9A] = .ok (.laxZp 0x9A, []) ∧
    decode [0xA8] = .ok (.tay, []) ∧
    decode [0xA9, 0x9A] = .ok (.ldaImm 0x9A, []) ∧
    decode [0xAA] = .ok (.tax, []) ∧
    decode [0xAB, 0x9A] = .ok (.lxaImm 0x9A, []) ∧
    decode [0xAC, 0x34, 0x12] = .ok (.ldyAbs 0x1234, []) ∧
    decode [0xAD, 0x34, 0x12] = .ok (.ldaAbs 0x1234, []) ∧
    decode [0xAE, 0x34, 0x12] = .ok (.ldxAbs 0x1234, []) ∧
    decode [0xAF, 0x34, 0x12] = .ok (.laxAbs 0x1234, []) :=
  ⟨rfl, rfl, rfl, rfl, rfl, rfl, rfl, rfl, rfl, rfl, rfl, rfl, rfl, rfl, rfl, rfl⟩

theorem test_decode_rowB :
    decode [0xB0, 0x9A] = .ok (.bcsRel 0x9A, []) ∧
    decode [0xB1, 0x9A] = .ok (.ldaIzy 0x9A, []) ∧
    decode [0xB2] = .ok (.jamB2, []) ∧
    decode [0xB3, 0x9A] = .ok (.laxIzy 0x9A, []) ∧
    decode [0xB4, 0x9A] = .ok (.ldyZpx 0x9A, []) ∧
    decode [0xB5, 0x9A] = .ok (.ldaZpx 0x9A, []) ∧
    decode [0xB6, 0x9A] = .ok (.ldxZpy 0x9A, []) ∧
    decode [0xB7, 0x9A] = .ok (.laxZpy 0x9A, []) ∧
    decode [0xB8] = .ok (.clv, []) ∧
    decode [0xB9, 0x34, 0x12] = .ok (.ldaAby 0x1234, []) ∧
    decode [0xBA] = .ok (.tsx, []) ∧
    decode [0xBB, 0x34, 0x12] = .ok (.lasAby 0x1234, []) ∧
    decode [0xBC, 0x34, 0x12] = .ok (.ldyAbx 0x1234, []) ∧
    decode [0xBD, 0x34, 0x12] = .ok (.ldaAbx 0x1234, []) ∧
    decode [0xBE, 0x34, 0x12] = .ok (.ldxAby 0x1234, []) ∧
    decode [0xBF, 0x34, 0x12] = .ok (.laxAby 0x1234, []) :=
  ⟨rfl, rfl, rfl, rfl, rfl, rfl, rfl, rfl, rfl, rfl, rfl, rfl, rfl, rfl, rfl, rfl⟩

theorem test_decode_rowC :
    decode [0xC0, 0x9A] = .ok (.cpyImm 0x9A, []) ∧
    decode [0xC1, 0x9A] = .ok (.cmpIzx 0x9A, []) ∧
    decode [0xC2, 0x9A] = .ok (.nopImmC2 0x9A, []) ∧
    decode [0xC3, 0x9A] = .ok (.dcpIzx 0x9A, []) ∧
    decode [0xC4, 0x9A] = .ok (.cpyZp 0x9A, []) ∧
    decode [0xC5, 0x9A] = .ok (.cmpZp 0x9A, []) ∧
    decode [0xC6, 0x9A] = .ok (.decZp 0x9A, []) ∧
    decode [0xC7, 0x9A] = .ok (.dcpZp 0x9A, []) ∧
    decode [0xC8] = .ok (.iny, []) ∧
    decode [0xC9, 0x9A] = .ok (.cmpImm 0x9A, []) ∧
    decode [0xCA] = .ok (.dex, []) ∧
    decode [0xCB, 0x9A] = .ok (.axsImm 0x9A, []) ∧
    decode [0xCC, 0x34, 0x12] = .ok (.cpyAbs 0x1234, []) ∧
    decode [0xCD, 0x34, 0x12] = .ok (.cmpAbs 0x1234, []) ∧
    decode [0xCE, 0x34, 0x12] = .ok (.decAbs 0x1234, []) ∧
    decode [0xCF, 0x34, 0x12] = .ok (.dcpAbs 0x1234, []) :=
  ⟨rfl, rfl, rfl, rfl, rfl, rfl, rfl, rfl, rfl, rfl, rfl, rfl, rfl, rfl, rfl, rfl⟩

theorem test_decode_rowD :
    decode [0xD0, 0x9A] = .ok (.bneRel 0x9A, []) ∧
    decode [0xD1, 0x9A] = .ok (.cmpIzy 0x9A, []) ∧
    decode [0xD2] = .ok (.jamD2, []) ∧
    decode [0xD3, 0x9A] = .ok (.dcpIzy 0x9A, []) ∧
    decode [0xD4, 0x9A] = .ok (.nopZpxD4 0x9A, []) ∧
    decode [0xD5, 0x9A] = .ok (.cmpZpx 0x9A, []) ∧
    decode [0xD6, 0x9A] = .ok (.decZpx 0x9A, []) ∧
    decode [0xD7, 0x9A] = .ok (.dcpZpx 0x9A, []) ∧
    decode [0xD8] = .ok (.cld, []) ∧
    decode [0xD9, 0x34, 0x12] = .ok (.cmpAby 0x1234, []) ∧
    decode [0xDA] = .ok (.nopDA, []) ∧
    decode [0xDB, 0x34, 0x12] = .ok (.dcpAby 0x1234, []) ∧
    decode [0xDC, 0x34, 0x12] = .ok (.nopAbxDC 0x1234, []) ∧
    decode [0xDD, 0x34, 0x12] = .ok (.cmpAbx 0x1234, []) ∧
    decode [0xDE, 0x34, 0x12] = .ok (.decAbx 0x1234, []) ∧
    decode [0xDF, 0x34, 0x12] = .ok (.dcpAbx 0x1234, []) :=
  ⟨rfl, rfl, rfl, rfl, rfl, rfl, rfl, rfl, rfl, rfl, rfl, rfl, rfl, rfl, rfl, rfl⟩

theorem test_decode_rowE :
    decode [0xE0, 0x9A] = .ok (.cpxImm 0x9A, []) ∧
    decode [0xE1, 0x9A] = .ok (.sbcIzx 0x9A, []) ∧
    decode [0xE2, 0x9A] = .ok (.nopImmE2 0x9A, []) ∧
    decode [0xE3, 0x9A] = .ok (.iscIzx 0x9A, []) ∧
    decode [0xE4, 0x9A] = .ok (.cpxZp 0x9A, []) ∧
    decode [0xE5, 0x9A] = .ok (.sbcZp 0x9A, []) ∧
    decode [0xE6, 0x9A] = .ok (.incZp 0x9A, []) ∧
    decode [0xE7, 0x9A] = .ok (.iscZp 0x9A, []) ∧
    decode [0xE8] = .ok (.inx, []) ∧
    decode [0xE9, 0x9A] = .ok (.sbcImm 0x9A, []) ∧
    decode [0xEA] = .ok (.nop, []) ∧
    decode [0xEB, 0x9A] = .ok (.sbcImmEB 0x9A, []) ∧
    decode [0xEC, 0x34, 0x12] = .ok (.cpxAbs 0x1234, []) ∧
    decode [0xED, 0x34, 0x12] = .ok (.sbcAbs 0x1234, []) ∧
    decode [0xEE, 0x34, 0x12] = .ok (.incAbs 0x1234, []) ∧
    decode [0xEF, 0x34, 0x12] = .ok (.iscAbs 0x1234, []) :=
  ⟨rfl, rfl, rfl, rfl, rfl, rfl, rfl, rfl, rfl, rfl, rfl, rfl, rfl, rfl, rfl, rfl⟩

theorem test_decode_rowF :
    decode [0xF0, 0x9A] = .ok (.beqRel 0x9A, []) ∧
    decode [0xF1, 0x9A] = .ok (.sbcIzy 0x9A, []) ∧
    decode [0xF2] = .ok (.jamF2, []) ∧
    decode [0xF3, 0x9A] = .ok (.iscIzy 0x9A, []) ∧
    decode [0xF4, 0x9A] = .ok (.nopZpxF4 0x9A, []) ∧
    decode [0xF5, 0x9A] = .ok (.sbcZpx 0x9A, []) ∧
    decode [0xF6, 0x9A] = .ok (.incZpx 0x9A, []) ∧
    decode [0xF7, 0x9A] = .ok (.iscZpx 0x9A, []) ∧
    decode [0xF8] = .ok (.sed, []) ∧
    decode [0xF9, 0x34, 0x12] = .ok (.sbcAby 0x1234, []) ∧
    decode [0xFA] = .ok (.nopFA, []) ∧
    decode [0xFB, 0x34, 0x12] = .ok (.iscAby 0x1234, []) ∧
    decode [0xFC, 0x34, 0x12] = .ok (.nopAbxFC 0x1234, []) ∧
    decode [0xFD, 0x34, 0x12] = .ok (.sbcAbx 0x1234, []) ∧
    decode [0xFE, 0x34, 0x12] = .ok (.incAbx 0x1234, []) ∧
    decode [0xFF, 0x34, 0x12] = .ok (.iscAbx 0x1234, []) :=
  ⟨rfl, rfl, rfl, rfl, rfl, rfl, rfl, rfl, rfl, rfl, rfl, rfl, rfl, rfl, rfl, rfl⟩

/-- A list that ends before its operand is refused by name. -/
theorem test_decode_truncated :
    decode [] = .error .noOpcode ∧ decode [0xA9] = .error (.truncated 0xA9) ∧
    decode [0x20, 0x34] = .error (.truncated 0x20) := ⟨rfl, rfl, rfl⟩

/-- The bits of an opcode-table row, first byte lowest; bits above `nbits` are 0. -/
theorem test_decodeTableWord :
    decodeTableWord 8 0xA9 = some (.ldaImm 0x00) ∧ decodeTableWord 16 0x12A9 = some (.ldaImm 0x12) ∧
    decodeTableWord 24 0x123420 = some (.jsrAbs 0x1234) := by decide

/-- An instruction placed for the next step is fetched and run from reset. -/
theorem test_withFetchWord_runs_next :
    after (State.reset.withFetchWord 16 0x80A9) (fun t => t.a == 0x80 && t.p.n && t.pc == 0x0002) = true := by decide

/-! ## Single steps, from the vectors of 95_test_vectors.md by their names -/

theorem test_VL1_lda_imm :
    after ({ start 0x8000 [(0x8000, 0xA9)] [] with a := 0x55, p := { n := true, v := false, d := false, i := true, z := false, c := false } }) (fun t => decide (t.a = 0x00) && decide (t.p.n = false) && decide (t.p.z = true)) = true := by decide

theorem test_VL4_lda_zp_x_wraps_inside_page_0 :
    after ({ start 0x8000 [(0x8000, 0xB5), (0x8001, 0xF0)] [(0x0010, 0x11), (0x0110, 0x22)] with x := 0x20 }) (fun t => decide (t.a = 0x11) && decide (t.pc = 0x8002)) = true := by decide

theorem test_VL5_ldx_zp_y_wraps :
    after ({ start 0x8000 [(0x8000, 0xB6), (0x8001, 0xFF)] [(0x0001, 0x33), (0x0101, 0x44)] with y := 0x02 }) (fun t => decide (t.x = 0x33) && decide (t.pc = 0x8002)) = true := by decide

theorem test_VL7_lda_0800_reads_ram_mirror_of_0000 :
    after (start 0x8000 [(0x8000, 0xAD), (0x8002, 0x08)] [(0x0000, 0x5A)]) (fun t => decide (t.a = 0x5A) && decide (t.pc = 0x8003)) = true := by decide

theorem test_VL9_lda_abs_y_wraps_modulo_65536 :
    after ({ start 0x8000 [(0x8000, 0xB9), (0x8001, 0xFF), (0x8002, 0xFF)] [(0x0001, 0x99)] with y := 0x02 }) (fun t => decide (t.a = 0x99) && decide (t.p.n = true) && decide (t.pc = 0x8003)) = true := by decide

theorem test_VL10_lda_zp_x :
    after ({ start 0x8000 [(0x8000, 0xA1), (0x8001, 0xFE)] [(0x0000, 0x03), (0x00FF, 0x00), (0x0100, 0x07), (0x0300, 0xAB)] with x := 0x01 }) (fun t => decide (t.a = 0xAB) && decide (t.p.n = true) && decide (t.pc = 0x8002)) = true := by decide

theorem test_VL11_lda_zp_y :
    after ({ start 0x8000 [(0x8000, 0xB1), (0x8001, 0xFF)] [(0x0000, 0x02), (0x00FF, 0xF8), (0x0100, 0x07), (0x0308, 0xCD)] with y := 0x10 }) (fun t => decide (t.a = 0xCD) && decide (t.p.n = true) && decide (t.pc = 0x8002)) = true := by decide

theorem test_VL13_ldy_imm :
    after (start 0x8000 [(0x8000, 0xA0), (0x8001, 0x7F)] []) (fun t => decide (t.y = 0x7F) && decide (t.pc = 0x8002)) = true := by decide

theorem test_VL15_sta_abs :
    after ({ start 0x8000 [(0x8000, 0x8D), (0x8002, 0x02)] [] with a := 0x5A, p := { n := true, v := false, d := false, i := true, z := true, c := false } }) (fun t => decide (t.byteAt 0x0200 = some 0x5A) && decide (t.pc = 0x8003)) = true := by decide

theorem test_VL16_sta_1800_writes_ram_0000_mirror :
    after ({ start 0x8000 [(0x8000, 0x8D), (0x8002, 0x18)] [] with a := 0x77 }) (fun t => decide (t.byteAt 0x0000 = some 0x77) && decide (t.pc = 0x8003)) = true := by decide

theorem test_VL20_sta_zp_y :
    after ({ start 0x8000 [(0x8000, 0x91), (0x8001, 0x10)] [(0x0010, 0x01), (0x0011, 0x02)] with a := 0xEE, y := 0xFF }) (fun t => decide (t.byteAt 0x0300 = some 0xEE) && decide (t.pc = 0x8002)) = true := by decide

theorem test_VL23_stx_zp_y :
    after ({ start 0x8000 [(0x8000, 0x96), (0x8001, 0x10)] [] with x := 0x03, y := 0x05 }) (fun t => decide (t.byteAt 0x0015 = some 0x03) && decide (t.pc = 0x8002)) = true := by decide

theorem test_VL24_sty_abs :
    after ({ start 0x8000 [(0x8000, 0x8C), (0x8002, 0x03)] [] with y := 0x80 }) (fun t => decide (t.byteAt 0x0300 = some 0x80) && decide (t.pc = 0x8003)) = true := by decide

theorem test_VL25_tax :
    after ({ start 0x8000 [(0x8000, 0xAA)] [] with a := 0x00, x := 0x55 }) (fun t => decide (t.x = 0x00) && decide (t.p.z = true) && decide (t.pc = 0x8001)) = true := by decide

theorem test_VL26_tay :
    after ({ start 0x8000 [(0x8000, 0xA8)] [] with a := 0xC0 }) (fun t => decide (t.y = 0xC0) && decide (t.p.n = true) && decide (t.pc = 0x8001)) = true := by decide

theorem test_VL27_txa :
    after ({ start 0x8000 [(0x8000, 0x8A)] [] with a := 0xFF, x := 0x01, p := { n := true, v := false, d := false, i := true, z := false, c := false } }) (fun t => decide (t.a = 0x01) && decide (t.p.n = false) && decide (t.pc = 0x8001)) = true := by decide

theorem test_VL28_tya :
    after ({ start 0x8000 [(0x8000, 0x98)] [] with y := 0xFF }) (fun t => decide (t.a = 0xFF) && decide (t.p.n = true) && decide (t.pc = 0x8001)) = true := by decide

theorem test_VL29_tsx_at_power_up_s :
    after (start 0x8000 [(0x8000, 0xBA)] []) (fun t => decide (t.x = 0xFD) && decide (t.p.n = true) && decide (t.pc = 0x8001)) = true := by decide

theorem test_VL30_txs_writes_no_flag_even_when_the_value_i :
    after ({ start 0x8000 [(0x8000, 0x9A)] [] with x := 0x00, sp := 0xFD, p := { n := true, v := false, d := false, i := true, z := false, c := false } }) (fun t => decide (t.sp = 0x00) && decide (t.pc = 0x8001)) = true := by decide

theorem test_VS2_pha_with_s_00 :
    after ({ start 0x8000 [(0x8000, 0x48)] [] with a := 0x42, sp := 0x00 }) (fun t => decide (t.byteAt 0x0100 = some 0x42) && decide (t.sp = 0xFF) && decide (t.pc = 0x8001)) = true := by decide

theorem test_VS3_php_at_power_up_flags :
    after (start 0x8000 [(0x8000, 0x08)] []) (fun t => decide (t.byteAt 0x01FD = some 0x34) && decide (t.sp = 0xFC) && decide (t.pc = 0x8001)) = true := by decide

theorem test_VS7_pla_with_s_ff :
    after ({ start 0x8000 [(0x8000, 0x68)] [(0x0100, 0x80)] with sp := 0xFF }) (fun t => decide (t.a = 0x80) && decide (t.sp = 0x00) && decide (t.p.n = true)) = true := by decide

theorem test_VS9_plp_00 :
    after ({ start 0x8000 [(0x8000, 0x28)] [(0x01FD, 0x00)] with sp := 0xFC }) (fun t => decide (t.sp = 0xFD) && decide (t.p.i = false) && decide (t.pc = 0x8001)) = true := by decide

theorem test_VA2_adc_signed_overflow :
    after ({ start 0x8000 [(0x8000, 0x69), (0x8001, 0x01)] [] with a := 0x7F }) (fun t => decide (t.a = 0x80) && decide (t.p.n = true) && decide (t.p.v = true)) = true := by decide

theorem test_VA3_adc :
    after ({ start 0x8000 [(0x8000, 0x69), (0x8001, 0x80)] [] with a := 0x80 }) (fun t => decide (t.a = 0x00) && decide (t.p.v = true) && decide (t.p.z = true)) = true := by decide

theorem test_VA9_sbc_with_borrow_in_c_0 :
    after ({ start 0x8000 [(0x8000, 0xE9), (0x8001, 0x01)] [] with a := 0x10, p := { n := false, v := false, d := false, i := true, z := false, c := false } }) (fun t => decide (t.a = 0x0E) && decide (t.p.c = true) && decide (t.pc = 0x8002)) = true := by decide

theorem test_VA11_sbc_signed_overflow :
    after ({ start 0x8000 [(0x8000, 0xE9), (0x8001, 0x01)] [] with a := 0x80, p := { n := false, v := false, d := false, i := true, z := false, c := true } }) (fun t => decide (t.a = 0x7F) && decide (t.p.v = true) && decide (t.pc = 0x8002)) = true := by decide

theorem test_VA16_cmp_equal :
    after ({ start 0x8000 [(0x8000, 0xC9), (0x8001, 0x10)] [] with a := 0x10 }) (fun t => decide (t.p.z = true) && decide (t.p.c = true) && decide (t.pc = 0x8002)) = true := by decide

theorem test_VA18_cmp_80_vs_01 :
    after ({ start 0x8000 [(0x8000, 0xC9), (0x8001, 0x01)] [] with a := 0x80 }) (fun t => decide (t.p.c = true) && decide (t.pc = 0x8002)) = true := by decide

theorem test_VA19_cpx_equal :
    after ({ start 0x8000 [(0x8000, 0xE0), (0x8001, 0x08)] [] with x := 0x08 }) (fun t => decide (t.p.z = true) && decide (t.p.c = true) && decide (t.pc = 0x8002)) = true := by decide

theorem test_VA20_cpy_less :
    after ({ start 0x8000 [(0x8000, 0xC0), (0x8001, 0x01)] [] with y := 0x00 }) (fun t => decide (t.p.n = true) && decide (t.pc = 0x8002)) = true := by decide

theorem test_VA21_inc_wraps_to_0 :
    after ({ start 0x8000 [(0x8000, 0xE6), (0x8001, 0x10)] [(0x0010, 0xFF)] with p := { n := false, v := false, d := false, i := true, z := false, c := true } }) (fun t => decide (t.byteAt 0x0010 = some 0x00) && decide (t.p.z = true) && decide (t.pc = 0x8002)) = true := by decide

theorem test_VA24_dec_wraps_to_ff :
    after (start 0x8000 [(0x8000, 0xC6), (0x8001, 0x10)] [(0x0010, 0x00)]) (fun t => decide (t.byteAt 0x0010 = some 0xFF) && decide (t.p.n = true) && decide (t.pc = 0x8002)) = true := by decide

theorem test_VA28_inx_wraps :
    after ({ start 0x8000 [(0x8000, 0xE8)] [] with x := 0xFF }) (fun t => decide (t.x = 0x00) && decide (t.p.z = true) && decide (t.pc = 0x8001)) = true := by decide

theorem test_VA29_iny :
    after ({ start 0x8000 [(0x8000, 0xC8)] [] with y := 0x00, p := { n := false, v := false, d := false, i := true, z := true, c := false } }) (fun t => decide (t.y = 0x01) && decide (t.p.z = false) && decide (t.pc = 0x8001)) = true := by decide

theorem test_VA30_dex_to_zero :
    after ({ start 0x8000 [(0x8000, 0xCA)] [] with x := 0x01 }) (fun t => decide (t.x = 0x00) && decide (t.p.z = true) && decide (t.pc = 0x8001)) = true := by decide

theorem test_VA31_dey_wraps :
    after ({ start 0x8000 [(0x8000, 0x88)] [] with y := 0x00 }) (fun t => decide (t.y = 0xFF) && decide (t.p.n = true) && decide (t.pc = 0x8001)) = true := by decide

theorem test_VG1_and_to_zero :
    after ({ start 0x8000 [(0x8000, 0x29), (0x8001, 0x0F)] [] with a := 0xF0 }) (fun t => decide (t.a = 0x00) && decide (t.p.z = true) && decide (t.pc = 0x8002)) = true := by decide

theorem test_VG2_ora :
    after ({ start 0x8000 [(0x8000, 0x09), (0x8001, 0x80)] [] with a := 0x01 }) (fun t => decide (t.a = 0x81) && decide (t.p.n = true) && decide (t.pc = 0x8002)) = true := by decide

theorem test_VG3_eor :
    after ({ start 0x8000 [(0x8000, 0x49), (0x8001, 0xFF)] [] with a := 0x0F }) (fun t => decide (t.a = 0xF0) && decide (t.p.n = true) && decide (t.pc = 0x8002)) = true := by decide

theorem test_VG5_bit :
    after ({ start 0x8000 [(0x8000, 0x24), (0x8001, 0x10)] [(0x0010, 0xC0)] with a := 0x01 }) (fun t => decide (t.p.n = true) && decide (t.p.v = true) && decide (t.p.z = true)) = true := by decide

theorem test_VG8_asl_a :
    after ({ start 0x8000 [(0x8000, 0x0A)] [] with a := 0x81 }) (fun t => decide (t.a = 0x02) && decide (t.p.c = true) && decide (t.pc = 0x8001)) = true := by decide

theorem test_VG12_lsr_a :
    after ({ start 0x8000 [(0x8000, 0x4A)] [] with a := 0x01, p := { n := true, v := false, d := false, i := true, z := false, c := false } }) (fun t => decide (t.a = 0x00) && decide (t.p.n = false) && decide (t.p.z = true)) = true := by decide

theorem test_VG14_rol_a :
    after ({ start 0x8000 [(0x8000, 0x2A)] [] with a := 0x80, p := { n := false, v := false, d := false, i := true, z := false, c := true } }) (fun t => decide (t.a = 0x01) && decide (t.pc = 0x8001)) = true := by decide

theorem test_VG16_rol_zp_x :
    after ({ start 0x8000 [(0x8000, 0x36), (0x8001, 0x0F)] [(0x0010, 0x55)] with x := 0x01, p := { n := false, v := false, d := false, i := true, z := false, c := true } }) (fun t => decide (t.byteAt 0x0010 = some 0xAB) && decide (t.p.n = true) && decide (t.p.c = false)) = true := by decide

theorem test_VG17_ror_a :
    after ({ start 0x8000 [(0x8000, 0x6A)] [] with a := 0x01, p := { n := false, v := false, d := false, i := true, z := false, c := true } }) (fun t => decide (t.a = 0x80) && decide (t.p.n = true) && decide (t.pc = 0x8001)) = true := by decide

theorem test_VG19_ror_abs_x :
    after ({ start 0x8000 [(0x8000, 0x7E), (0x8002, 0x02)] [(0x0210, 0x02)] with x := 0x10, p := { n := false, v := false, d := false, i := true, z := false, c := true } }) (fun t => decide (t.byteAt 0x0210 = some 0x81) && decide (t.p.n = true) && decide (t.p.c = false)) = true := by decide

theorem test_VB1_bcc_taken_forward :
    after ({ start 0x8000 [(0x8000, 0x90), (0x8001, 0x05)] [] with p := { n := false, v := false, d := false, i := true, z := false, c := false } }) (fun t => decide (t.pc = 0x8007)) = true := by decide

theorem test_VB2_bcc_not_taken :
    after ({ start 0x8000 [(0x8000, 0x90), (0x8001, 0x05)] [] with p := { n := false, v := false, d := false, i := true, z := false, c := true } }) (fun t => decide (t.pc = 0x8002)) = true := by decide

theorem test_VB3_bcs_to_itself_the_end_of_run_self_jump_o :
    after ({ start 0x8000 [(0x8000, 0xB0), (0x8001, 0xFE)] [] with p := { n := false, v := false, d := false, i := true, z := false, c := true } }) (fun t => decide (t.pc = 0x8000)) = true := by decide

theorem test_VB4_beq :
    after ({ start 0xC010 [(0xC010, 0xF0), (0xC011, 0x10)] [] with p := { n := false, v := false, d := false, i := true, z := true, c := false } }) (fun t => decide (t.pc = 0xC022)) = true := by decide

theorem test_VB6_bmi :
    after ({ start 0x8000 [(0x8000, 0x30), (0x8001, 0x02)] [] with p := { n := true, v := false, d := false, i := true, z := false, c := false } }) (fun t => decide (t.pc = 0x8004)) = true := by decide

theorem test_VB7_bpl_backward :
    after ({ start 0x8003 [(0x8003, 0x10), (0x8004, 0xFB)] [] with p := { n := false, v := false, d := false, i := true, z := false, c := false } }) (fun t => decide (t.pc = 0x8000)) = true := by decide

theorem test_VB8_bvc_largest_forward_offset :
    after ({ start 0x8000 [(0x8000, 0x50), (0x8001, 0x7F)] [] with p := { n := false, v := false, d := false, i := true, z := false, c := false } }) (fun t => decide (t.pc = 0x8081)) = true := by decide

theorem test_VB9_bvs_largest_backward_offset_crossing_int :
    after ({ start 0x8000 [(0x8000, 0x70), (0x8001, 0x80)] [] with p := { n := false, v := true, d := false, i := true, z := false, c := false } }) (fun t => decide (t.pc = 0x7F82)) = true := by decide

theorem test_VB10_bne_crossing_a_page_forward :
    after (start 0x80F0 [(0x80F0, 0xD0), (0x80F1, 0x10)] []) (fun t => decide (t.pc = 0x8102)) = true := by decide

theorem test_VB12_jmp_abs :
    after (start 0x8000 [(0x8000, 0x4C), (0x8002, 0xC0)] []) (fun t => decide (t.pc = 0xC000)) = true := by decide

theorem test_VB15_jmp_02ff :
    after (start 0x8000 [(0x8000, 0x6C), (0x8001, 0xFF), (0x8002, 0x02)] [(0x0200, 0x12), (0x02FF, 0x34), (0x0300, 0x56)]) (fun t => decide (t.pc = 0x1234)) = true := by decide

theorem test_VB16_jsr_pushes_8002_address_of_its_own_last :
    after ({ start 0x8000 [(0x8000, 0x20), (0x8001, 0x34), (0x8002, 0x12)] [] with sp := 0xFF }) (fun t => decide (t.byteAt 0x01FE = some 0x02) && decide (t.byteAt 0x01FF = some 0x80) && decide (t.sp = 0xFD)) = true := by decide

theorem test_VB19_rts :
    after ({ start 0x8000 [(0x8000, 0x60)] [(0x01FE, 0xFF), (0x01FF, 0xFF)] with sp := 0xFD }) (fun t => decide (t.sp = 0xFF) && decide (t.pc = 0x0000)) = true := by decide

theorem test_VF1_clc :
    after ({ start 0x8000 [(0x8000, 0x18)] [] with p := { n := false, v := false, d := false, i := true, z := false, c := true } }) (fun t => decide (t.p.c = false) && decide (t.pc = 0x8001)) = true := by decide

theorem test_VF2_sec :
    after (start 0x8000 [(0x8000, 0x38)] []) (fun t => decide (t.p.c = true) && decide (t.pc = 0x8001)) = true := by decide

theorem test_VF3_cli :
    after (start 0x8000 [(0x8000, 0x58)] []) (fun t => decide (t.p.i = false) && decide (t.pc = 0x8001)) = true := by decide

theorem test_VF5_sei :
    after ({ start 0x8000 [(0x8000, 0x78)] [] with p := { n := false, v := false, d := false, i := false, z := false, c := false }, iPoll := false }) (fun t => decide (t.p.i = true) && decide (t.pc = 0x8001)) = true := by decide

theorem test_VF6_cld :
    after ({ start 0x8000 [(0x8000, 0xD8)] [] with p := { n := false, v := false, d := true, i := true, z := false, c := false } }) (fun t => decide (t.p.d = false) && decide (t.pc = 0x8001)) = true := by decide

theorem test_VF7_sed :
    after (start 0x8000 [(0x8000, 0xF8)] []) (fun t => decide (t.p.d = true) && decide (t.pc = 0x8001)) = true := by decide

theorem test_VF8_clv :
    after ({ start 0x8000 [(0x8000, 0xB8)] [] with p := { n := false, v := true, d := false, i := true, z := false, c := false } }) (fun t => decide (t.p.v = false) && decide (t.pc = 0x8001)) = true := by decide

theorem test_VF9_nop :
    after (start 0x8000 [(0x8000, 0xEA)] []) (fun t => decide (t.pc = 0x8001)) = true := by decide

theorem test_VF10_brk :
    after ({ start 0x8000 [(0x8001, 0xEA), (0xFFFF, 0x90)] [] with p := { n := false, v := false, d := false, i := false, z := true, c := true }, iPoll := false }) (fun t => decide (t.byteAt 0x01FB = some 0x33) && decide (t.byteAt 0x01FC = some 0x02) && decide (t.byteAt 0x01FD = some 0x80)) = true := by decide

theorem test_VF12_rti :
    after ({ start 0x8000 [(0x8000, 0x40)] [(0x01FB, 0x33), (0x01FC, 0x02), (0x01FD, 0x80)] with sp := 0xFA }) (fun t => decide (t.sp = 0xFD) && decide (t.iPoll = false) && decide (t.p.i = false)) = true := by decide

theorem test_VX1_irq_taken_at_the_boundary_before_8123 :
    after ({ start 0x8123 [(0x8123, 0xEA), (0xFFFB, 0xB0), (0xFFFD, 0x80), (0xFFFF, 0xA0)] [] with irqLine := false, p := { n := false, v := false, d := false, i := false, z := false, c := true }, iPoll := false }) (fun t => decide (t.byteAt 0x01FB = some 0x21) && decide (t.byteAt 0x01FC = some 0x23) && decide (t.byteAt 0x01FD = some 0x81)) = true := by decide

theorem test_VX3_nmi_ignores_i :
    after ({ start 0x8123 [(0x8123, 0xEA), (0xFFFB, 0xB0), (0xFFFD, 0x80), (0xFFFF, 0xA0)] [] with nmiPending := true, p := { n := true, v := false, d := false, i := true, z := false, c := false }, iPoll := true }) (fun t => decide (t.byteAt 0x01FB = some 0xA4) && decide (t.byteAt 0x01FC = some 0x23) && decide (t.byteAt 0x01FD = some 0x81)) = true := by decide

theorem test_VX10_brk_hijacked_by_an_nmi_that_arrives_duri :
    after ({ start 0x8000 [(0x8001, 0xEA), (0xFFFB, 0xB0), (0xFFFD, 0x80), (0xFFFF, 0xA0)] [] with schedule := [[.nmiMid]], p := { n := false, v := false, d := false, i := false, z := false, c := false }, iPoll := false }) (fun t => decide (t.byteAt 0x01FB = some 0x30) && decide (t.byteAt 0x01FC = some 0x02) && decide (t.byteAt 0x01FD = some 0x80)) = true := by decide

theorem test_VX13_reset_during_a_run :
    after ({ start 0x8000 [(0xFFFB, 0xB0), (0xFFFD, 0x80), (0xFFFF, 0xA0)] [] with a := 0x12, x := 0x34, y := 0x56, sp := 0x01, nmiPending := true, jammed := true, resetPending := true, p := { n := true, v := false, d := false, i := false, z := false, c := true }, iPoll := false }) (fun t => decide (t.sp = 0xFE) && decide (t.iPoll = true) && decide (t.nmiPending = false)) = true := by decide

theorem test_VU1_slo :
    after ({ start 0x8000 [(0x8000, 0x07), (0x8001, 0x10)] [(0x0010, 0x81)] with a := 0x01 }) (fun t => decide (t.byteAt 0x0010 = some 0x02) && decide (t.a = 0x03) && decide (t.p.c = true)) = true := by decide

theorem test_VU2_rla :
    after ({ start 0x8000 [(0x8000, 0x27), (0x8001, 0x10)] [(0x0010, 0x40)] with a := 0xFF, p := { n := false, v := false, d := false, i := true, z := false, c := true } }) (fun t => decide (t.byteAt 0x0010 = some 0x81) && decide (t.a = 0x81) && decide (t.p.n = true)) = true := by decide

theorem test_VU3_sre :
    after ({ start 0x8000 [(0x8000, 0x47), (0x8001, 0x10)] [(0x0010, 0x03)] with a := 0xFF }) (fun t => decide (t.byteAt 0x0010 = some 0x01) && decide (t.a = 0xFE) && decide (t.p.n = true)) = true := by decide

theorem test_VU4_rra :
    after ({ start 0x8000 [(0x8000, 0x67), (0x8001, 0x10)] [(0x0010, 0x02)] with a := 0x10, p := { n := false, v := false, d := false, i := true, z := false, c := true } }) (fun t => decide (t.byteAt 0x0010 = some 0x81) && decide (t.a = 0x91) && decide (t.p.n = true)) = true := by decide

theorem test_VU6_dcp_equal :
    after ({ start 0x8000 [(0x8000, 0xC7), (0x8001, 0x10)] [(0x0010, 0x06)] with a := 0x05 }) (fun t => decide (t.byteAt 0x0010 = some 0x05) && decide (t.p.z = true) && decide (t.p.c = true)) = true := by decide

theorem test_VU7_isc :
    after ({ start 0x8000 [(0x8000, 0xE7), (0x8001, 0x10)] [(0x0010, 0x0F)] with a := 0x10, p := { n := false, v := false, d := false, i := true, z := false, c := true } }) (fun t => decide (t.byteAt 0x0010 = some 0x10) && decide (t.a = 0x00) && decide (t.p.z = true)) = true := by decide

theorem test_VU8_sax :
    after ({ start 0x8000 [(0x8000, 0x87), (0x8001, 0x10)] [] with a := 0xF0, x := 0x3C }) (fun t => decide (t.byteAt 0x0010 = some 0x30) && decide (t.pc = 0x8002)) = true := by decide

theorem test_VU9_lax :
    after (start 0x8000 [(0x8000, 0xA7), (0x8001, 0x10)] [(0x0010, 0x80)]) (fun t => decide (t.a = 0x80) && decide (t.x = 0x80) && decide (t.p.n = true)) = true := by decide

theorem test_VU10_las :
    after ({ start 0x8000 [(0x8000, 0xBB), (0x8002, 0x02)] [(0x0200, 0x3C)] with sp := 0xF0 }) (fun t => decide (t.a = 0x30) && decide (t.x = 0x30) && decide (t.sp = 0x30)) = true := by decide

theorem test_VU11_anc :
    after ({ start 0x8000 [(0x8000, 0x0B), (0x8001, 0x80)] [] with a := 0xFF }) (fun t => decide (t.a = 0x80) && decide (t.p.n = true) && decide (t.p.c = true)) = true := by decide

theorem test_VU12_alr :
    after ({ start 0x8000 [(0x8000, 0x4B), (0x8001, 0xFF)] [] with a := 0x03 }) (fun t => decide (t.a = 0x01) && decide (t.p.c = true) && decide (t.pc = 0x8002)) = true := by decide

theorem test_VU14_arr :
    after ({ start 0x8000 [(0x8000, 0x6B), (0x8001, 0xFF)] [] with a := 0x80, p := { n := false, v := false, d := false, i := true, z := false, c := false } }) (fun t => decide (t.a = 0x40) && decide (t.p.v = true) && decide (t.p.c = true)) = true := by decide

theorem test_VU15_axs :
    after ({ start 0x8000 [(0x8000, 0xCB), (0x8001, 0x01)] [] with a := 0xFF, x := 0x0F }) (fun t => decide (t.x = 0x0E) && decide (t.p.c = true) && decide (t.pc = 0x8002)) = true := by decide

theorem test_VU17_sbc_second_encoding :
    after ({ start 0x8000 [(0x8000, 0xEB), (0x8001, 0x01)] [] with a := 0x03, p := { n := false, v := false, d := false, i := true, z := false, c := true } }) (fun t => decide (t.a = 0x02) && decide (t.pc = 0x8002)) = true := by decide

theorem test_VU18_nop_zp :
    after (start 0x8000 [(0x8000, 0x04), (0x8001, 0x10)] []) (fun t => decide (t.pc = 0x8002)) = true := by decide

theorem test_VU20_nop_implied_one_byte :
    after (start 0x8000 [(0x8000, 0x1A)] []) (fun t => decide (t.pc = 0x8001)) = true := by decide

theorem test_VU21_nop_imm_two_bytes :
    after (start 0x8000 [(0x8000, 0x80), (0x8001, 0xFF)] []) (fun t => decide (t.pc = 0x8002)) = true := by decide

theorem test_VU22_jam :
    after (start 0x8000 [(0x8000, 0x02)] []) (fun t => decide (t.jammed = true) && decide (t.pc = 0x8000)) = true := by decide

/-! ## The treatment of the undocumented opcodes (R250; VU23 and VU24 of 95_test_vectors.md) -/

/-- VU23: ANE is "refused even when unofficial opcodes are admitted". -/
theorem test_VU23_refused_under_spec :
    (start 0x8000 [(0x8000, 0x8B), (0x8001, 0xFF)] []).runInstructionUnder (.ofSpec true) = .refused (.declined 0x8B) :=
  rfl

/-- VU23, as the step: nothing of ANE is done. -/
theorem test_VU23_step_refuses : step (start 0x8000 [(0x8000, 0x8B), (0x8001, 0xFF)] []) = .refused (.declined 0x8B) := rfl

/-- VU24: "any undocumented opcode is refused" by ADMIT_UNOFFICIAL's default. -/
theorem test_VU24_refused_under_default :
    (start 0x8000 [(0x8000, 0x07), (0x8001, 0x10)] []).runInstructionUnder (.ofSpec false) = .refused (.declined 0x07) :=
  rfl

/-! ## A reset in the middle of an instruction (R305, R351), and the end of a run (R380) -/

/-- /RST falls after the fourth cycle of BRK at $8123: PC is pushed, the flags are not; the release then resets, and the
two pushed bytes stay. -/
theorem test_reset_cuts_brk :
    after { start 0x8123 [(0xFFFD, 0x80)] [] with schedule := [[.rstMid 4], [.rst true]] } (fun t =>
      t.sp == 0xFB && !t.rstLine && t.pc == 0x8123 && decide (t.mem = [(0x01FC, 0x25), (0x01FD, 0x81)]) &&
      decide (t.bus = [.write 0x01FC 0x25, .write 0x01FD 0x81, .read 0x8124, .read 0x8123]) &&
      after t (fun u => u.sp == 0xF8 && u.pc == 0x8000 && decide (u.mem = [(0x01FC, 0x25), (0x01FD, 0x81)]))) = true := by
  decide

/-- /RST falls between the two writes of INC $10 at a device register: the device has seen the first write only. -/
theorem test_reset_cuts_increment :
    after { start 0x8000 [(0x8000, 0xEE), (0x8001, 0x16), (0x8002, 0x40)] [] with
        schedule := [[.rstMid 5]], inputs := [0x06] } (fun t =>
      t.outLatch == 0x6 && decide (t.bus = [.write 0x4016 0x06, .read 0x4016, .read 0x8002, .read 0x8001, .read 0x8000]))
      = true := by decide

/-- `4C 00 80` at $8000 with interrupts unable to arrive; a jammed machine is no such run, nor is one in which an IRQ waits
for the instruction after CLI. -/
theorem test_selfJump :
    (start 0x8000 [(0x8000, 0x4C), (0x8002, 0x80)] []).SelfJump ∧
    ¬ ({ start 0x8000 [(0x8000, 0x4C), (0x8002, 0x80)] [] with jammed := true } : State).SelfJump ∧
    ¬ (start 0x8000 [(0x8000, 0x02)] []).SelfJump ∧
    ¬ ({ start 0x8000 [(0x8000, 0x4C), (0x8002, 0x80)] [] with
        irqLine := false, p := { n := false, v := false, d := false, i := false, z := false, c := false } } : State).SelfJump :=
  ⟨⟨rfl, rfl, rfl, .inl rfl, by decide⟩, fun h => absurd h.2.1 (by decide), fun h => absurd h.2.2.2.2 (by decide),
   fun h => absurd h.2.2.2.1 (by decide)⟩

/-- `self_jump` is complete when the jump has run, not before. -/
theorem test_runEnds_selfJump :
    State.RunEnds .selfJump 1 (start 0x8000 [(0x8000, 0x4C), (0x8002, 0x80)] []) .completed ∧
    State.RunEnds .selfJump 0 (start 0x8000 [(0x8000, 0x4C), (0x8002, 0x80)] []) .running :=
  ⟨⟨1, _, Nat.le_refl 1, rfl, 0, _, rfl, rfl, test_selfJump.1⟩,
   fun ⟨m, _, hm, _, k, _, hk, _⟩ => by omega, _, rfl, fun h => absurd h.1 (by decide)⟩

/-- A run that jams within its steps is stuck, not completed. -/
theorem test_runEnds_jam : State.RunEnds (.steps 1) 1 (start 0x8000 [(0x8000, 0x02)] []) .stuck :=
  ⟨fun ⟨m, t, hm, ht, hk, hj⟩ => by
    obtain rfl : m = 1 := by omega
    cases ht
    exact absurd hj (by decide), _, rfl, rfl, rfl, rfl, rfl⟩

/-- A run that fetches an unstable opcode is refused. -/
theorem test_runEnds_refused : State.RunEnds (.steps 1) 1 (start 0x8000 [(0x8000, 0x8B)] []) .refused :=
  ⟨by
    rintro ⟨m, t, hm, ht, hk, -⟩
    obtain rfl : m = 1 := by omega
    have h : (.refused (.declined 0x8B) : Result) = .next t := ht
    exact (nomatch h),
   .declined 0x8B, rfl⟩

/-! ## Witnesses: every form list of the obligations is inhabited -/

/-- Forms of Loads at the ends of their operand ranges. -/
theorem witness_Loads_forms :
    (0xA9, .ldaImm 0xFF) ∈ ldaForms (.imm 0xFF) ∧
    (0xB1, .ldaIzy 0xFF) ∈ ldaForms (.mem (.izy 0xFF)) ∧
    (0xA2, .ldxImm 0xFF) ∈ ldxForms (.imm 0xFF) ∧
    (0xBE, .ldxAby 0xFFFF) ∈ ldxForms (.mem (.aby 0xFFFF)) ∧
    (0xA0, .ldyImm 0xFF) ∈ ldyForms (.imm 0xFF) ∧
    (0xBC, .ldyAbx 0xFFFF) ∈ ldyForms (.mem (.abx 0xFFFF)) := by decide

/-- Forms of Stores at the ends of their operand ranges. -/
theorem witness_Stores_forms :
    (0x85, .staZp 0xFF) ∈ staForms (.zp 0xFF) ∧
    (0x91, .staIzy 0xFF) ∈ staForms (.izy 0xFF) ∧
    (0x86, .stxZp 0xFF) ∈ stxForms (.zp 0xFF) ∧
    (0x8E, .stxAbs 0xFFFF) ∈ stxForms (.abs 0xFFFF) ∧
    (0x84, .styZp 0xFF) ∈ styForms (.zp 0xFF) ∧
    (0x8C, .styAbs 0xFFFF) ∈ styForms (.abs 0xFFFF) ∧
    (0x87, .saxZp 0xFF) ∈ saxForms (.zp 0xFF) ∧
    (0x83, .saxIzx 0xFF) ∈ saxForms (.izx 0xFF) := by decide

/-- Forms of AddWithCarry at the ends of their operand ranges. -/
theorem witness_AddWithCarry_forms :
    (0x69, .adcImm 0xFF) ∈ adcForms (.imm 0xFF) ∧
    (0x71, .adcIzy 0xFF) ∈ adcForms (.mem (.izy 0xFF)) := by decide

/-- Forms of SubtractWithCarry at the ends of their operand ranges. -/
theorem witness_SubtractWithCarry_forms :
    (0xE9, .sbcImm 0xFF) ∈ sbcForms (.imm 0xFF) ∧
    (0xF1, .sbcIzy 0xFF) ∈ sbcForms (.mem (.izy 0xFF)) := by decide

/-- Forms of Compares at the ends of their operand ranges. -/
theorem witness_Compares_forms :
    (0xC9, .cmpImm 0xFF) ∈ cmpForms (.imm 0xFF) ∧
    (0xD1, .cmpIzy 0xFF) ∈ cmpForms (.mem (.izy 0xFF)) ∧
    (0xE0, .cpxImm 0xFF) ∈ cpxForms (.imm 0xFF) ∧
    (0xEC, .cpxAbs 0xFFFF) ∈ cpxForms (.mem (.abs 0xFFFF)) ∧
    (0xC0, .cpyImm 0xFF) ∈ cpyForms (.imm 0xFF) ∧
    (0xCC, .cpyAbs 0xFFFF) ∈ cpyForms (.mem (.abs 0xFFFF)) := by decide

/-- Forms of MemoryIncrements at the ends of their operand ranges. -/
theorem witness_MemoryIncrements_forms :
    (0xE6, .incZp 0xFF) ∈ incForms (.zp 0xFF) ∧
    (0xFE, .incAbx 0xFFFF) ∈ incForms (.abx 0xFFFF) ∧
    (0xC6, .decZp 0xFF) ∈ decForms (.zp 0xFF) ∧
    (0xDE, .decAbx 0xFFFF) ∈ decForms (.abx 0xFFFF) := by decide

/-- Forms of LogicOperations at the ends of their operand ranges. -/
theorem witness_LogicOperations_forms :
    (0x29, .andImm 0xFF) ∈ andForms (.imm 0xFF) ∧
    (0x31, .andIzy 0xFF) ∈ andForms (.mem (.izy 0xFF)) ∧
    (0x09, .oraImm 0xFF) ∈ oraForms (.imm 0xFF) ∧
    (0x11, .oraIzy 0xFF) ∈ oraForms (.mem (.izy 0xFF)) ∧
    (0x49, .eorImm 0xFF) ∈ eorForms (.imm 0xFF) ∧
    (0x51, .eorIzy 0xFF) ∈ eorForms (.mem (.izy 0xFF)) := by decide

/-- Forms of BitTest at the ends of their operand ranges. -/
theorem witness_BitTest_forms :
    (0x24, .bitZp 0xFF) ∈ bitForms (.mem (.zp 0xFF)) ∧
    (0x2C, .bitAbs 0xFFFF) ∈ bitForms (.mem (.abs 0xFFFF)) := by decide

/-- Forms of LeftShifts at the ends of their operand ranges. -/
theorem witness_LeftShifts_forms :
    (0x06, .aslZp 0xFF) ∈ aslForms (.zp 0xFF) ∧
    (0x1E, .aslAbx 0xFFFF) ∈ aslForms (.abx 0xFFFF) ∧
    (0x26, .rolZp 0xFF) ∈ rolForms (.zp 0xFF) ∧
    (0x3E, .rolAbx 0xFFFF) ∈ rolForms (.abx 0xFFFF) := by decide

/-- Forms of RightShifts at the ends of their operand ranges. -/
theorem witness_RightShifts_forms :
    (0x46, .lsrZp 0xFF) ∈ lsrForms (.zp 0xFF) ∧
    (0x5E, .lsrAbx 0xFFFF) ∈ lsrForms (.abx 0xFFFF) ∧
    (0x66, .rorZp 0xFF) ∈ rorForms (.zp 0xFF) ∧
    (0x7E, .rorAbx 0xFFFF) ∈ rorForms (.abx 0xFFFF) := by decide

/-- Forms of ShiftAndLogicCombinations at the ends of their operand ranges. -/
theorem witness_ShiftAndLogicCombinations_forms :
    (0x07, .sloZp 0xFF) ∈ sloForms (.zp 0xFF) ∧
    (0x13, .sloIzy 0xFF) ∈ sloForms (.izy 0xFF) ∧
    (0x27, .rlaZp 0xFF) ∈ rlaForms (.zp 0xFF) ∧
    (0x33, .rlaIzy 0xFF) ∈ rlaForms (.izy 0xFF) ∧
    (0x47, .sreZp 0xFF) ∈ sreForms (.zp 0xFF) ∧
    (0x53, .sreIzy 0xFF) ∈ sreForms (.izy 0xFF) := by decide

/-- Forms of ArithmeticCombinations at the ends of their operand ranges. -/
theorem witness_ArithmeticCombinations_forms :
    (0x67, .rraZp 0xFF) ∈ rraForms (.zp 0xFF) ∧
    (0x73, .rraIzy 0xFF) ∈ rraForms (.izy 0xFF) ∧
    (0xC7, .dcpZp 0xFF) ∈ dcpForms (.zp 0xFF) ∧
    (0xD3, .dcpIzy 0xFF) ∈ dcpForms (.izy 0xFF) ∧
    (0xE7, .iscZp 0xFF) ∈ iscForms (.zp 0xFF) ∧
    (0xF3, .iscIzy 0xFF) ∈ iscForms (.izy 0xFF) := by decide

/-- Forms of LoadCombinations at the ends of their operand ranges. -/
theorem witness_LoadCombinations_forms :
    (0xA7, .laxZp 0xFF) ∈ laxForms (.mem (.zp 0xFF)) ∧
    (0xB3, .laxIzy 0xFF) ∈ laxForms (.mem (.izy 0xFF)) ∧
    (0xBB, .lasAby 0xFFFF) ∈ lasForms (.mem (.aby 0xFFFF)) := by decide

/-- Forms of ReadingNops at the ends of their operand ranges. -/
theorem witness_ReadingNops_forms :
    (0x80, .nopImm80 0xFF) ∈ nopReadForms (.imm 0xFF) ∧
    (0x1C, .nopAbx1C 0xFFFF) ∈ nopReadForms (.mem (.abx 0xFFFF)) := by decide

/-- Forms of UnstableStores at the ends of their operand ranges. -/
theorem witness_UnstableStores_forms :
    (0x9F, .shaAby 0xFFFF) ∈ shaForms (.aby 0xFFFF) ∧
    (0x93, .shaIzy 0xFF) ∈ shaForms (.izy 0xFF) ∧
    (0x9E, .shxAby 0xFFFF) ∈ shxForms (.aby 0xFFFF) ∧
    (0x9C, .shyAbx 0xFFFF) ∈ shyForms (.abx 0xFFFF) ∧
    (0x9B, .tasAby 0xFFFF) ∈ tasForms (.aby 0xFFFF) := by decide

/-! ## Witnesses: states and operands that meet the hypotheses of the obligations -/

/-- STA $10 in ROM, with a byte in RAM. -/
def storing : State := start 0x8000 [(0x8000, 0x85), (0x8001, 0x10)] [(0x0010, 0x12)]

theorem witness_StepKeepsInvariant : storing.Inv ∧ ∃ t, step storing = .next t ∧ decide (t.mem = [(0x10, 0)]) = true :=
  ⟨⟨by decide, by decide, by decide⟩, exists_next_of_after (by decide)⟩

theorem witness_StepKeepsRom :
    (∃ t, step storing = .next t ∧ decide (t.mem = [(0x10, 0)]) = true) ∧ storing.ramAt 0x2000 = false ∧
    storing.ramAt 0x8000 = false ∧ storing.ramAt 0xFFFF = false ∧ storing.ramAt 0x1FFF = true :=
  ⟨exists_next_of_after (by decide), by decide⟩

theorem witness_DecodeOfEncode : (Instr.jmpInd 0xFFFF).wellFormed = true ∧ (Instr.brk).wellFormed = true := by decide

theorem witness_EveryOpcodeDecodesAndReencodes :
    decode [0x4C, 0xFF, 0xFF] = .ok (.jmpAbs 0xFFFF, []) ∧ decode [0xEA] = .ok (.nop, []) ∧
    decode [0xA9, 0x00, 0x55] = .ok (.ldaImm 0x00, [0x55]) := ⟨rfl, rfl, rfl⟩

/-- One, two and three bytes, and JSR, at the top of the address space and across it. -/
theorem witness_StepRunsDecodedInstruction :
    (∃ s : State, s.environment.busy = false ∧ decode [0xEA, 0, 0] = .ok (.nop, [0, 0]) ∧
      s.environment.byteAt s.environment.pc = some 0xEA) ∧
    (∃ s : State, s.environment.busy = false ∧ decode [0xA9, 0x80, 0] = .ok (.ldaImm 0x80, [0]) ∧
      s.environment.byteAt s.environment.pc = some 0xA9 ∧
      s.environment.byteAt (s.environment.pc + 1) = some 0x80) ∧
    (∃ s : State, s.environment.busy = false ∧ decode [0x20, 0x34, 0x12] = .ok (.jsrAbs 0x1234, []) ∧
      s.environment.byteAt s.environment.pc = some 0x20 ∧
      s.environment.byteAt (s.environment.pc + 1) = some 0x34 ∧
      s.environment.byteAt (s.environment.pc + 2) = some 0x12) ∧
    (∃ s : State, s.environment.busy = false ∧ decode [0x8B, 0xFF, 0] = .ok (.aneImm 0xFF, [0]) ∧
      s.environment.byteAt s.environment.pc = some 0x8B ∧
      s.environment.byteAt (s.environment.pc + 1) = some 0xFF) :=
  ⟨⟨start 0xFFFF [(0xFFFF, 0xEA)] [], by decide, rfl, by decide⟩,
   ⟨start 0xFFFF [(0xFFFF, 0xA9)] [(0x0000, 0x80)], by decide, rfl, by decide, by decide⟩,
   ⟨start 0x8000 [(0x8000, 0x20), (0x8001, 0x34), (0x8002, 0x12)] [], by decide, rfl, by decide, by decide,
    by decide⟩,
   ⟨start 0x8000 [(0x8000, 0x8B), (0x8001, 0xFF)] [], by decide, rfl, by decide, by decide⟩⟩

/-- An unstable opcode, a JAM, a stable one and a documented one stand at `pc`. -/
theorem witness_OnlyUnstableOpcodesAreRefused :
    (start 0x8000 [(0x8000, 0x8B)] []).busRead 0x8000 ∈ [(0x8B : Byte), 0xAB, 0x9F, 0x93, 0x9E, 0x9C, 0x9B] ∧
    ((start 0x8000 [(0x8000, 0x8B)] []).environment.busy = false ∧
      (start 0x8000 [(0x8000, 0x8B)] []).environment.pc = 0x8000) ∧
    (({ State.reset with jammed := true } : State).environment.rstMid = none ∧
      ({ State.reset with jammed := true } : State).environment.busy = true) ∧
    opcodeKind ((start 0x8000 [(0x8000, 0x02)] []).busRead 0x8000) = .jam ∧
    opcodeKind ((start 0x8000 [(0x8000, 0x07)] []).busRead 0x8000) = .stable ∧
    opcodeKind ((start 0x8000 [(0x8000, 0xEA)] []).busRead 0x8000) = .documented := by decide

theorem witness_StepTakesTableCycles : storing.environment.busy = false ∧
    ∃ t, step storing = .next t ∧ decide (t.bus.length = 3) = true :=
  ⟨by decide, exists_next_of_after (by decide)⟩

theorem witness_OnlyNamedInstructionsWriteFlags :
    (∃ t, exec .nop State.reset = .next t) ∧ (Instr.nop).mnemonic ∉ ["ADC", "SBC", "BIT", "CLV", "PLP", "RTI", "RRA", "ISC", "ARR"] ∧
    (Instr.nop).mnemonic ∉ ["CLI", "SEI", "PLP", "RTI", "BRK"] ∧ (Instr.nop).mnemonic ∉ ["CLD", "SED", "PLP", "RTI"] ∧
    (Instr.nop).mnemonic ∉ ["ADC", "SBC", "CMP", "CPX", "CPY", "ASL", "LSR", "ROL", "ROR", "SEC", "CLC", "PLP", "RTI",
      "SLO", "RLA", "SRE", "RRA", "DCP", "ISC", "ANC", "ALR", "ARR", "AXS"] ∧
    (Instr.nop).mnemonic ∉ ["LDA", "LDX", "LDY", "TAX", "TAY", "TXA", "TYA", "TSX", "PLA", "ADC", "SBC", "CMP", "CPX",
      "CPY", "INC", "INX", "INY", "DEC", "DEX", "DEY", "AND", "ORA", "EOR", "BIT", "ASL", "LSR", "ROL", "ROR", "PLP",
      "RTI", "SLO", "RLA", "SRE", "RRA", "DCP", "ISC", "LAX", "LAS", "ANC", "ALR", "ARR", "AXS", "ANE", "LXA"] :=
  ⟨⟨_, rfl⟩, by decide⟩

theorem witness_OnlyNamedInstructionsWriteRegisters :
    (∃ t, exec (.staAbs 0x0200) State.reset = .next t) ∧
    (Instr.staAbs 0x0200).mnemonic ∉ ["LDA", "PLA", "TXA", "TYA", "ADC", "SBC", "AND", "ORA", "EOR", "ASL", "LSR",
      "ROL", "ROR", "SLO", "RLA", "SRE", "RRA", "ISC", "LAX", "LAS", "ANC", "ALR", "ARR", "ANE", "LXA"] ∧
    (Instr.staAbs 0x0200).mnemonic ∉ ["LDX", "TAX", "TSX", "INX", "DEX", "LAX", "LAS", "AXS", "LXA"] ∧
    (Instr.staAbs 0x0200).mnemonic ∉ ["LDY", "TAY", "INY", "DEY"] ∧
    (Instr.staAbs 0x0200).mnemonic ∉ ["TXS", "PHA", "PHP", "PLA", "PLP", "JSR", "RTS", "RTI", "BRK", "LAS", "TAS"] :=
  ⟨⟨_, rfl⟩, by decide⟩

theorem witness_OnlyStoresChangeMemoryAndDevices :
    (∃ t, exec (.ldaAbs 0x2002) State.reset = .next t) ∧
    (Instr.ldaAbs 0x2002).mnemonic ∉ ["STA", "STX", "STY", "SAX", "INC", "DEC", "ASL", "LSR", "ROL", "ROR", "PHA",
      "PHP", "JSR", "BRK", "SLO", "RLA", "SRE", "RRA", "DCP", "ISC", "SHA", "SHX", "SHY", "TAS"] ∧
    (Instr.ldaAbs 0x2002).mnemonic ≠ "BRK" ∧ (Instr.ldaAbs 0x2002).mnemonic ≠ "JAM" :=
  ⟨⟨_, rfl⟩, by decide⟩

theorem witness_DecimalFlagChangesNothingElse :
    (Instr.adcImm 0x09).mnemonic ∉ ["PHP", "BRK"] ∧ (Instr.cld).mnemonic ∉ ["PHP", "BRK"] := by decide

theorem witness_GateSeesOldInterruptDisableOnlyAfterCliSeiPlp :
    (Instr.cli).mnemonic ≠ "JAM" ∧ (Instr.rti).mnemonic ≠ "JAM" := by decide

/-- Each range of the address map at both ends. -/
theorem witness_ReadCycleFollowsAddressMap :
    (0x0000 : Word).toNat < 0x2000 ∧ (0x1FFF : Word).toNat < 0x2000 ∧
    (0x2000 ≤ (0x2000 : Word).toNat ∧ (0x2000 : Word).toNat < 0x4020) ∧
    (0x2000 ≤ (0x401F : Word).toNat ∧ (0x401F : Word).toNat < 0x4020) ∧
    0x4020 ≤ (0x4020 : Word).toNat ∧ 0x4020 ≤ (0xFFFF : Word).toNat := by decide

/-- A cartridge with RAM at $6000-$7FFF. -/
def withRam : State := { State.reset with cart := ⟨[⟨0x6000, 0x2000, .ram⟩, ⟨0x8000, 0x8000, .rom⟩], []⟩ }

/-- Each clause at both ends of its range; a ROM address, an unmapped one and a device meet the third. -/
theorem witness_WriteCycleFollowsAddressMap :
    (0x1FFF : Word).toNat < 0x2000 ∧
    (0x4020 ≤ (0x6000 : Word).toNat ∧ withRam.cart.kindAt (0x6000 : Word).toNat = .ram) ∧
    (0x4020 ≤ (0x7FFF : Word).toNat ∧ withRam.cart.kindAt (0x7FFF : Word).toNat = .ram) ∧
    (0x2000 ≤ (0x2000 : Word).toNat ∧ ¬ 0x4020 ≤ (0x2000 : Word).toNat) ∧
    (0x2000 ≤ (0x4016 : Word).toNat ∧ ¬ 0x4020 ≤ (0x4016 : Word).toNat) ∧
    (0x2000 ≤ (0x4020 : Word).toNat ∧ withRam.cart.kindAt (0x4020 : Word).toNat ≠ .ram) ∧
    (0x2000 ≤ (0xFFFF : Word).toNat ∧ withRam.cart.kindAt (0xFFFF : Word).toNat ≠ .ram) := by decide

theorem witness_OperandIsTheByteAtItsAddress :
    storing.byteAt (storing.ea (.zp 0x10)) = some 0x12 ∧ storing.byteAt (storing.ea (.abs 0xFFFF)) = some 0x00 ∧
    storing.byteAt (storing.ea (.abs 0x2000)) = none := by decide

theorem witness_Branches : (branchForms.length, branchForms.map (·.opcode)) =
    (8, [0x10, 0x30, 0x50, 0x70, 0x90, 0xB0, 0xD0, 0xF0]) := by decide

theorem witness_FlagInstructionsAndNops : (0xEA, .nop) ∈ nopForms ∧ (0x1A, .nop1A) ∈ nopForms := by decide

/-- The pointer's second byte comes from the start of its page. -/
theorem witness_Jumps :
    (start 0x8000 [] [(0x0200, 0x12), (0x02FF, 0x34)]).byteAt 0x02FF = some 0x34 ∧
    (start 0x8000 [] [(0x0200, 0x12), (0x02FF, 0x34)]).byteAt
      (BitVec.ofNat 16 ((0x02FF : Word).toNat / 256 * 256 + ((0x02FF : Word).toNat + 1) % 256)) = some 0x12 := by
  decide

theorem witness_JumpToSubroutine : ∃ s t : State, exec (.jsrAbs 0x1234) s = .next t ∧ t.byteAt (s.pc + 2) = some 0x12 :=
  ⟨start 0x8000 [(0x8002, 0x12)] [], _, rfl, by decide⟩

/-- An index without and with a page cross. -/
theorem witness_UnstableStores :
    State.pageCross { State.reset with y := 0xFF } (.aby 0x1200) = false ∧
    State.pageCross { State.reset with y := 0xFF } (.aby 0x1201) = true := by decide

/-- Four bytes of page one around its wrap. -/
def stacked (sp : Byte) : State :=
  { start 0x8000 [] [(0x0100, 0xC3), (0x0101, 0x00), (0x0102, 0xC0), (0x01FF, 0x34)] with sp := sp }

theorem witness_Pulls : (stacked 0xFF).byteAt (stackAddress ((stacked 0xFF).sp + 1)) = some 0xC3 ∧
    (stacked 0xFE).byteAt (stackAddress ((stacked 0xFE).sp + 1)) = some 0x34 := by decide

theorem witness_ReturnFromSubroutine :
    (stacked 0xFE).byteAt (stackAddress ((stacked 0xFE).sp + 1)) = some 0x34 ∧
    (stacked 0xFE).byteAt (stackAddress ((stacked 0xFE).sp + 2)) = some 0xC3 := by decide

theorem witness_ReturnFromInterrupt :
    (stacked 0xFF).byteAt (stackAddress ((stacked 0xFF).sp + 1)) = some 0xC3 ∧
    (stacked 0xFF).byteAt (stackAddress ((stacked 0xFF).sp + 2)) = some 0x00 ∧
    (stacked 0xFF).byteAt (stackAddress ((stacked 0xFF).sp + 3)) = some 0xC0 := by decide

/-- A ROM with the three vectors $B000, $8000, $A000 and NOPs at $8123. -/
def vectored : State :=
  start 0x8123 [(0x8123, 0xEA), (0xFFFB, 0xB0), (0xFFFD, 0x80), (0xFFFF, 0xA0)] []

/-- The bytes at the vectors, for the clause of `Entered` on PC. -/
theorem witness_BreakEntersHandler :
    vectored.byteAt 0xFFFE = some 0x00 ∧ vectored.byteAt (0xFFFE + 1) = some 0xA0 ∧
    vectored.byteAt 0xFFFA = some 0x00 ∧ vectored.byteAt (0xFFFA + 1) = some 0xB0 := by decide

theorem witness_JamLocksUntilReset :
    (0x02, .jam02) ∈ jamForms ∧ (0xF2, .jamF2) ∈ jamForms ∧
    State.environment { vectored with jammed := true, nmiPending := true, irqLine := false }
      = { vectored with jammed := true, nmiPending := true, irqLine := false } ∧
    ({ vectored with jammed := true } : State).environment.jammed = true ∧
    ({ vectored with jammed := true } : State).environment.resetPending = false := by decide

/-- /NMI falls with the pin events of the step. -/
theorem witness_NmiEntry :
    ∃ s : State, s.environment.rstLine = true ∧ s.environment.rstMid = none ∧ s.environment.resetPending = false ∧ s.environment.jammed = false ∧
      s.environment.nmiPending = true :=
  ⟨{ vectored with schedule := [[.nmi false]] }, by decide⟩

/-- The entry with and without a fall of /NMI inside it, and both reasons for no entry. -/
theorem witness_IrqEntry :
    (∃ s : State, s.environment.rstLine = true ∧ s.environment.rstMid = none ∧ s.environment.resetPending = false ∧ s.environment.jammed = false ∧
      s.environment.nmiPending = false ∧ s.environment.irqLine = false ∧ s.environment.iPoll = false ∧
      s.environment.nmiMid = false) ∧
    (∃ s : State, s.environment.rstLine = true ∧ s.environment.rstMid = none ∧ s.environment.resetPending = false ∧ s.environment.jammed = false ∧
      s.environment.nmiPending = false ∧ s.environment.irqLine = false ∧ s.environment.iPoll = false ∧
      s.environment.nmiMid = true) ∧
    (∃ s : State, s.environment.rstLine = true ∧ s.environment.rstMid = none ∧ s.environment.resetPending = false ∧ s.environment.jammed = false ∧
      s.environment.nmiPending = false ∧ s.environment.irqLine = true ∧ s.environment.iPoll = false) ∧
    (∃ s : State, s.environment.rstLine = true ∧ s.environment.rstMid = none ∧ s.environment.resetPending = false ∧ s.environment.jammed = false ∧
      s.environment.nmiPending = false ∧ s.environment.irqLine = false ∧ s.environment.iPoll = true) :=
  ⟨⟨{ vectored with iPoll := false, schedule := [[.irq false]] }, by decide⟩,
   ⟨{ vectored with iPoll := false, schedule := [[.irq false, .nmiMid]] }, by decide⟩,
   ⟨{ vectored with iPoll := false }, by decide⟩,
   ⟨{ vectored with schedule := [[.irq false]] }, by decide⟩⟩

/-- /RST is released with the pin events of the step, while an NMI is pending and the CPU is jammed. -/
theorem witness_ResetSequence :
    ∃ s : State, s.environment.rstLine = true ∧ s.environment.rstMid = none ∧ s.environment.resetPending = true ∧
      s.environment.byteAt 0xFFFC = some 0x00 ∧ s.environment.byteAt 0xFFFD = some 0x80 ∧ s.environment.jammed = true :=
  ⟨{ vectored with jammed := true, nmiPending := true, schedule := [[.rst false, .rst true]] }, by decide⟩

theorem witness_PinEventsAct :
    State.reset.nmiLine = true ∧ ({ State.reset with nmiLine := false } : State).nmiLine = false ∧
    State.reset.rstLine = true ∧ ({ State.reset with rstLine := false } : State).rstLine = false ∧
    ({ State.reset with schedule := [[.rst false]] } : State).environment.rstLine = false := by decide

/-- INC $10, a step of five bus cycles. -/
def incrementing : State := start 0x8000 [(0x8000, 0xE6), (0x8001, 0x10)] [(0x0010, 0x12)]

/-- /RST falls one cycle before the end of a step, and at its end; the fetched opcode is not RTI. -/
theorem witness_PinEventsAct_cut :
    ({ incrementing with schedule := [[.rstMid 4]] } : State).environment.rstMid = some 4 ∧
    incrementing.busRead incrementing.pc ≠ 0x40 ∧
    (∃ u, incrementing.boundary = .next u ∧ 4 < (incrementing.cyclesTo u).length ∧
      (incrementing.cyclesTo u).length ≤ 5) :=
  ⟨by decide, by decide, _, rfl, by decide, by decide⟩

/-- The opcode would be refused, and /RST falls before or after its fetch. -/
theorem witness_PinEventsAct_refused :
    ({ start 0x8000 [(0x8000, 0x8B)] [] with schedule := [[.rstMid 0]] } : State).environment.rstMid = some 0 ∧
    ({ start 0x8000 [(0x8000, 0x8B)] [] with schedule := [[.rstMid 1]] } : State).environment.rstMid = some 1 ∧
    (start 0x8000 [(0x8000, 0x8B)] []).boundary = .refused (.declined 0x8B) := ⟨by decide, by decide, rfl⟩

/-- A handler has changed A, X and Y. -/
theorem witness_InterruptThenReturnResumes : ∃ u : State, u.sp = (vectored.interrupt 0xFFFE).sp ∧ u.a = 0x55 ∧
    ∀ k ∈ [(1 : Byte), 2, 3],
      u.byteAt (stackAddress (u.sp + k)) = (vectored.interrupt 0xFFFE).byteAt (stackAddress (u.sp + k)) :=
  ⟨{ vectored.interrupt 0xFFFE with a := 0x55, x := 0x66, y := 0x77 }, by decide⟩

/-- A subroutine has changed A, X and Y; S is at its wrap. -/
theorem witness_CallThenReturnResumes : ∃ t u : State,
    exec (.jsrAbs 0x9000) { vectored with sp := 0x00 } = .next t ∧ u.sp = t.sp ∧ u.a = 0x55 ∧
    ∀ k ∈ [(1 : Byte), 2], u.byteAt (stackAddress (u.sp + k)) = t.byteAt (stackAddress (u.sp + k)) :=
  ⟨_, { callSubroutine 0x9000 { vectored with sp := 0x00 } with a := 0x55, x := 0x66, y := 0x77 }, rfl, by decide⟩

theorem witness_CliSeiAdmitsOneIrq : ∃ s : State, s.schedule = [] ∧ s.rstLine = true ∧ s.rstMid = none ∧ s.resetPending = false ∧
    s.jammed = false ∧ s.nmiPending = false ∧ s.nmiMid = false ∧ s.irqLine = false ∧ s.p.i = true ∧ s.iPoll = true ∧
    s.byteAt s.pc = some 0x58 ∧ s.byteAt (s.pc + 1) = some 0x78 :=
  ⟨{ start 0x8000 [(0x8000, 0x58), (0x8001, 0x78)] [] with irqLine := false }, by decide⟩

end Sys2Proof.Tests
end

section
/-! SUPPORT. Push and pull over page one (R24, R75, R76): where the byte goes, what else is left alone, how S moves. -/

namespace Sys2Proof.Machine

theorem stackAddress_toNat (p : Byte) : (stackAddress p).toNat = 0x100 + p.toNat := by
  simp [stackAddress, wordOf_toNat]

theorem push_sp_toNat (s : State) (v : Byte) : (s.push v).sp.toNat = (s.sp.toNat + 255) % 256 := by
  rw [push_sp]; bv_omega

theorem pulled_sp_toNat (s : State) : s.pulled.sp.toNat = (s.sp.toNat + 1) % 256 := by
  rw [pulled_sp]; bv_omega

theorem push_byteAt_top (s : State) (v : Byte) : (s.push v).byteAt (stackAddress s.sp) = some v := by
  rw [push_byteAt, if_pos (stackAddress_target s s.sp)]

/-- A push is a write cycle that then moves S, so it leaves in memory what the write cycle leaves. -/
theorem push_sameMemoryBut (s : State) (v : Byte) : SameMemoryBut [stackAddress s.sp] s (s.push v) :=
  (writeCycle_storedByte s (stackAddress s.sp) v).others

/-- RAM answers the read of a pull, so the pull draws nothing from the environment. -/
theorem byteAt_pull (s : State) : s.byteAt (stackAddress (s.sp + 1)) = some s.pullValue := by
  rw [byteAt_stack, pullValue_eq]

theorem push_pulled_sp (s : State) (v : Byte) : (s.push v).pulled.sp = s.sp := by
  rw [pulled_sp, push_sp]; exact byte_sub_one_add_one s.sp

/-- Settles O18, from the rules of a push, of a pull and of the two in a row. -/
theorem pushAndPullUsePageOne : Obligations.PushAndPullUsePageOne := by
  intro s v
  exact ⟨stackAddress_toNat,
    push_sp_toNat s v, push_byteAt_top s v, push_sameMemoryBut s v, push_bus s v,
    pulled_sp_toNat s, byteAt_pull s, pulled_byteAt s, pulled_bus s,
    push_pullValue s v, push_pulled_sp s v⟩

end Sys2Proof.Machine
end

section
/-! SUPPORT. Instructions that change registers and flags only, and how the forms of a mnemonic run. The frame of such an
instruction is that of its read cycles: `State.operandRead` of an operand (R118), `State.idle` of a one-byte
instruction (R372). -/

namespace Sys2Proof.Machine

/-- The end of an instruction of `len` bytes that leaves `a`, `x`, `y`, `sp` and `p` in the registers; `u` is the state
after its read cycles. The instructions of the model are tied to it by their own equations (`loadA_eq`). -/
def State.retireWith (u : State) (len : Word) (a x y sp : Byte) (p : Flags) : State :=
  { u with a := a, x := x, y := y, sp := sp, p := p }.retire len

section
variable {s u : State} {len : Word} {a x y sp : Byte} {p : Flags}

theorem retireWith_registers : Registers a x y sp (u.retireWith len a x y sp p) := ⟨rfl, rfl, rfl, rfl⟩

@[simp] theorem retireWith_p : (u.retireWith len a x y sp p).p = p := rfl

theorem retireWith_retired (hpc : u.pc = s.pc) : Retired len s (u.retireWith len a x y sp p) where
  pc := congrArg (· + len) hpc
  iPoll := rfl

theorem retireWith_traffic : SameTraffic u (u.retireWith len a x y sp p) := ⟨rfl, rfl, rfl⟩

theorem retireWith_noStore (h : NoStore s u) : NoStore s (u.retireWith len a x y sp p) where
  memory := h.memory
  devices := { h.devices with }
  pins := { h.pins with }

end

theorem idle_noStore (s : State) : NoStore s s.idle where
  memory := idle_byteAt s
  devices := ⟨rfl, rfl, rfl⟩
  pins := ⟨rfl, rfl, rfl, rfl, rfl, rfl, rfl, rfl, rfl⟩

theorem operandRead_noStore (o : Operand) (s : State) : NoStore s (s.operandRead o) where
  memory := operandRead_byteAt s o
  devices := by constructor <;> simp
  pins := by constructor <;> simp

theorem retireWith_readOnly (o : Operand) (s : State) (a x y sp : Byte) (p : Flags) :
    ReadOnly o s ((s.operandRead o).retireWith o.length a x y sp p) where
  retired := retireWith_retired (operandRead_pc s o)
  noStore := retireWith_noStore (operandRead_noStore o s)
  traffic := retireWith_traffic

theorem retireWith_impliedOnly (len : Word) (s : State) (a x y sp : Byte) (p : Flags) :
    ImpliedOnly s (s.idle.retireWith len a x y sp p) where
  noStore := retireWith_noStore (idle_noStore s)
  traffic := retireWith_traffic

/-- Every form of a mnemonic encodes to its opcode byte and the operand's bytes, and runs as the mnemonic's one function
of the operand. -/
def FormsRun (forms : Operand → List Form) (run : Operand → State → State) : Prop :=
  ∀ o s, ∀ f ∈ forms o, encode f.2 = f.1 :: o.bytes ∧ exec f.2 s = .next (run o s)

/-- What is known of the mnemonic's function holds of the answer of each form. -/
theorem FormsRun.exists_next {forms : Operand → List Form} {run : Operand → State → State} (h : FormsRun forms run)
    {o : Operand} {s : State} {P : State → Prop} (hP : P (run o s)) :
    ∀ f ∈ forms o, encode f.2 = f.1 :: o.bytes ∧ ∃ t, exec f.2 s = .next t ∧ P t := fun f hf =>
  have ⟨hencode, hexec⟩ := h o s f hf
  ⟨hencode, run o s, hexec, hP⟩

/-- Where the mnemonic's function is the operand's read with new registers and flags, each form has the frame of a read. -/
theorem FormsRun.readOnly {forms : Operand → List Form} {run : Operand → State → State} (h : FormsRun forms run)
    {o : Operand} {s : State} {a x y sp : Byte} {p : Flags}
    (hrun : run o s = (s.operandRead o).retireWith o.length a x y sp p) :
    ∀ f ∈ forms o, encode f.2 = f.1 :: o.bytes ∧ ∃ t, exec f.2 s = .next t ∧
      ReadOnly o s t ∧ Registers a x y sp t ∧ t.p = p := by
  refine h.exists_next ?_
  rw [hrun]
  exact ⟨retireWith_readOnly o s a x y sp p, retireWith_registers, retireWith_p⟩

/-- A one-byte instruction that makes its dummy read and then leaves these registers and flags. -/
theorem implied_of_exec {i : Instr} {op : Byte} {s : State} {a x y sp : Byte} {p : Flags} (hencode : encode i = [op])
    (hexec : exec i s = .next (s.idle.retireWith 1 a x y sp p)) :
    encode i = [op] ∧ ∃ t, exec i s = .next t ∧ Retired 1 s t ∧ ImpliedOnly s t ∧ Registers a x y sp t ∧ t.p = p :=
  ⟨hencode, _, hexec, retireWith_retired (idle_pc s), retireWith_impliedOnly 1 s a x y sp p,
    retireWith_registers, retireWith_p⟩

end Sys2Proof.Machine
end

section
/-! SUPPORT. Loads (R140 to R142) and register transfers (R146 to R151). -/

namespace Sys2Proof.Machine

/-! ## Loads -/

theorem loadA_eq (o : Operand) (s : State) : loadA o s = (s.operandRead o).retireWith o.length
    (s.operandValue o) s.x s.y s.sp (s.p.setZN (s.operandValue o)) := by
  simp [loadA, State.retireWith]

theorem loadX_eq (o : Operand) (s : State) : loadX o s = (s.operandRead o).retireWith o.length
    s.a (s.operandValue o) s.y s.sp (s.p.setZN (s.operandValue o)) := by
  simp [loadX, State.retireWith]

theorem loadY_eq (o : Operand) (s : State) : loadY o s = (s.operandRead o).retireWith o.length
    s.a s.x (s.operandValue o) s.sp (s.p.setZN (s.operandValue o)) := by
  simp [loadY, State.retireWith]

/-- LDA has no `zp,Y` form (R140). -/
theorem ldaForms_run : FormsRun ldaForms loadA
  | .imm _, _ | .mem (.zp _), _ | .mem (.zpx _), _ | .mem (.abs _), _ | .mem (.abx _), _ | .mem (.aby _), _
  | .mem (.izx _), _ | .mem (.izy _), _ => List.forall_mem_singleton.2 ⟨rfl, rfl⟩
  | .mem (.zpy _), _ => List.forall_mem_nil _

/-- LDX is indexed by Y only (R141). -/
theorem ldxForms_run : FormsRun ldxForms loadX
  | .imm _, _ | .mem (.zp _), _ | .mem (.zpy _), _ | .mem (.abs _), _ | .mem (.aby _), _ =>
    List.forall_mem_singleton.2 ⟨rfl, rfl⟩
  | .mem (.zpx _), _ | .mem (.abx _), _ | .mem (.izx _), _ | .mem (.izy _), _ => List.forall_mem_nil _

/-- LDY is indexed by X only (R142). -/
theorem ldyForms_run : FormsRun ldyForms loadY
  | .imm _, _ | .mem (.zp _), _ | .mem (.zpx _), _ | .mem (.abs _), _ | .mem (.abx _), _ =>
    List.forall_mem_singleton.2 ⟨rfl, rfl⟩
  | .mem (.zpy _), _ | .mem (.aby _), _ | .mem (.izx _), _ | .mem (.izy _), _ => List.forall_mem_nil _

/-- Settles O23: the forms of each mnemonic run as its load, and each load is the operand's read with new registers. -/
theorem loads : Obligations.Loads := fun o s =>
  ⟨ldaForms_run.readOnly (loadA_eq o s), ldxForms_run.readOnly (loadX_eq o s), ldyForms_run.readOnly (loadY_eq o s)⟩

/-! ## Transfers -/

/-- TAX, TAY, TXA, TYA and TSX set Z and N by `Flags.setZN`, TXS keeps the flags. -/
theorem exec_transfers (s : State) :
    exec .tax s = .next (s.idle.retireWith 1 s.a s.a s.y s.sp (s.p.setZN s.a)) ∧
    exec .tay s = .next (s.idle.retireWith 1 s.a s.x s.a s.sp (s.p.setZN s.a)) ∧
    exec .txa s = .next (s.idle.retireWith 1 s.x s.x s.y s.sp (s.p.setZN s.x)) ∧
    exec .tya s = .next (s.idle.retireWith 1 s.y s.x s.y s.sp (s.p.setZN s.y)) ∧
    exec .tsx s = .next (s.idle.retireWith 1 s.a s.sp s.y s.sp (s.p.setZN s.sp)) ∧
    exec .txs s = .next (s.idle.retireWith 1 s.a s.x s.y s.x s.p) := ⟨rfl, rfl, rfl, rfl, rfl, rfl⟩

/-- Settles O25: each transfer is the dummy read with new registers. -/
theorem transfers : Obligations.Transfers := fun s =>
  have ⟨htax, htay, htxa, htya, htsx, htxs⟩ := exec_transfers s
  ⟨implied_of_exec rfl htax, implied_of_exec rfl htay, implied_of_exec rfl htxa, implied_of_exec rfl htya,
    implied_of_exec rfl htsx, implied_of_exec rfl htxs⟩

end Sys2Proof.Machine
end

section
/-! SUPPORT. The stack instructions that push: PHA and PHP (R160, R161). Each is the dummy read of R376, one push and the
end of a one-byte instruction; the frame is proved once, for any pushed byte. -/

namespace Sys2Proof.Machine

/-- The byte PackP makes is the number of R36: with every bit set it is still below 256. -/
theorem pack_toNat (p : Flags) (b : Bool) : (p.pack b).toNat =
    p.n.toNat * 128 + p.v.toNat * 64 + 32 + b.toNat * 16 + p.d.toNat * 8 + p.i.toNat * 4 + p.z.toNat * 2 + p.c.toNat := by
  rw [Flags.pack, BitVec.toNat_ofNat]
  refine Nat.mod_eq_of_lt ?_
  have hn := p.n.toNat_le
  have hv := p.v.toNat_le
  have hb := b.toNat_le
  have hd := p.d.toNat_le
  have hi := p.i.toNat_le
  have hz := p.z.toNat_le
  have hc := p.c.toNat_le
  omega

theorem push_sameDevices (s : State) (v : Byte) : SameDevices s (s.push v) := ⟨rfl, push_apu s v, push_outLatch s v⟩

theorem push_samePins (s : State) (v : Byte) : SamePins s (s.push v) := ⟨rfl, rfl, rfl, rfl, rfl, rfl, rfl, rfl, rfl⟩

theorem idle_push_retired (s : State) (v : Byte) (len : Word) : Retired len s ((s.idle.push v).retire len) := ⟨rfl, rfl⟩

/-- The dummy read keeps memory, devices and pins, and the end of the instruction moves only `pc` and `i_poll`, so what
the push leaves is what the instruction leaves. -/
theorem idle_push_pushedByte (s : State) (v : Byte) (len : Word) : PushedByte v s ((s.idle.push v).retire len) where
  sp := rfl
  there := push_byteAt_top s.idle v
  others := push_sameMemoryBut s.idle v
  devices := { push_sameDevices s.idle v with }
  pins := { push_samePins s.idle v with }
  bus := rfl

theorem exec_pushes (s : State) :
    exec .pha s = .next ((s.idle.push s.a).retire 1) ∧
    exec .php s = .next ((s.idle.push (s.p.pack true)).retire 1) := ⟨rfl, rfl⟩

/-- Settles O26: both instructions have the frame of one push, PHA's byte being A and PHP's the flags packed with B set. -/
theorem pushes : Obligations.Pushes := fun s =>
  have ⟨hpha, hphp⟩ := exec_pushes s
  ⟨⟨rfl, _, hpha, idle_push_retired s s.a 1, idle_push_pushedByte s s.a 1, rfl, rfl, rfl, rfl⟩,
    rfl, _, s.p.pack true, hphp, idle_push_retired s _ 1, idle_push_pushedByte s _ 1, pack_toNat s.p true,
    rfl, rfl, rfl, rfl⟩

end Sys2Proof.Machine
end

section
/-! SUPPORT. Arithmetic and compares on an operand (R170 to R174, R263) and the index increments (R177 to R180): the sums and
differences as numbers, then each mnemonic as its read cycles with new registers and flags. -/

namespace Sys2Proof.Machine

/-! ## ADC -/

theorem addResult_toNat (a m : Byte) (c : Bool) :
    (addResult a m c).toNat = (a.toNat + m.toNat + c.toNat) % 256 := BitVec.toNat_ofNat _ 8

theorem addResult_eq (a m : Byte) (c : Bool) :
    addResult a m c = BitVec.ofNat 8 ((a.toNat + m.toNat + c.toNat) % 256) := by
  rw [← addResult_toNat, BitVec.ofNat_toNat, BitVec.setWidth_eq]

/-- V of an addition (R170): the bit formula on the byte ADC leaves says that the signed sum does not fit a byte. -/
theorem addResult_overflow_iff (a m : Byte) (c : Bool) :
    (a.toInt + m.toInt + c.toNat < -128 ∨ 127 < a.toInt + m.toInt + c.toNat) ↔
      (a ^^^ addResult a m c) &&& (m ^^^ addResult a m c) &&& 0x80 ≠ 0 :=
  overflow_iff a m _ c.toNat c.toNat_le (addResult_toNat a m c)

theorem addFlags_eq (a m : Byte) (p : Flags) : addFlags a m p = { p with
    c := decide (255 < a.toNat + m.toNat + p.c.toNat)
    v := decide (a.toInt + m.toInt + p.c.toNat < -128 ∨ 127 < a.toInt + m.toInt + p.c.toNat)
    z := decide (addResult a m p.c = 0)
    n := (addResult a m p.c).getLsbD 7 } := by
  simp only [addFlags, Flags.setZN, addSum, addResult_overflow_iff, gt_iff_lt]

theorem addToA_eq (o : Operand) (s : State) : addToA o s = (s.operandRead o).retireWith o.length
    (addResult s.a (s.operandValue o) s.p.c) s.x s.y s.sp (addFlags s.a (s.operandValue o) s.p) := by
  simp [addToA, State.retireWith]

/-- ADC has no `zp,Y` form (R170). -/
theorem adcForms_run : FormsRun adcForms addToA
  | .imm _, _ | .mem (.zp _), _ | .mem (.zpx _), _ | .mem (.abs _), _ | .mem (.abx _), _ | .mem (.aby _), _
  | .mem (.izx _), _ | .mem (.izy _), _ => List.forall_mem_singleton.2 ⟨rfl, rfl⟩
  | .mem (.zpy _), _ => List.forall_mem_nil _

/-- Settles O28: the forms run as the one addition, whose result and flags are the numbers of R170. -/
theorem addWithCarry : Obligations.AddWithCarry := by
  intro o s m sum r signed
  have hr : addResult s.a m s.p.c = r := addResult_eq s.a m s.p.c
  have hflags := addFlags_eq s.a m s.p
  have hoverflow := addResult_overflow_iff s.a m s.p.c
  rw [hr] at hflags hoverflow
  refine ⟨adcForms_run.readOnly ?_, hoverflow⟩
  rw [addToA_eq, hr, hflags]

/-! ## SBC

SBC adds the complement of the operand (R171). As numbers the complement is `255 - M`, or `-1 - M` signed, and the carry in
is one less the borrow; so the sum is the difference, up to the 256 that is the carry out. -/

/-- What SBC takes away beside the operand: `1 - C` (R171). -/
def borrowOf (c : Bool) : Nat := if c then 0 else 1

theorem toNat_add_borrowOf (c : Bool) : c.toNat + borrowOf c = 1 := by cases c <;> rfl

theorem add_complement_toNat (a m : Byte) (c : Bool) :
    a.toNat + (m ^^^ 0xFF).toNat + c.toNat = a.toNat + 256 - m.toNat - borrowOf c := by
  have hborrow := toNat_add_borrowOf c
  have hm := m.isLt
  rw [complement_toNat]
  omega

theorem add_complement_toInt (a m : Byte) (c : Bool) :
    a.toInt + (m ^^^ 0xFF).toInt + c.toNat = a.toInt - m.toInt - borrowOf c := by
  have hborrow := toNat_add_borrowOf c
  rw [complement_toInt]
  omega

/-- The carry out of SBC means that there was no borrow (R171). -/
theorem carry_add_complement_iff (a m : Byte) (c : Bool) :
    255 < a.toNat + (m ^^^ 0xFF).toNat + c.toNat ↔ m.toNat + borrowOf c ≤ a.toNat := by
  rw [add_complement_toNat]
  omega

theorem subResult_eq (a m : Byte) (c : Bool) :
    subResult a m c = BitVec.ofNat 8 (a.toNat + 256 - m.toNat - borrowOf c) :=
  congrArg (BitVec.ofNat 8) (add_complement_toNat a m c)

/-- V of a subtraction (R171): the bit formula on the complemented operand says that the signed difference does not fit a
byte. -/
theorem subResult_overflow_iff (a m : Byte) (c : Bool) :
    (a.toInt - m.toInt - borrowOf c < -128 ∨ 127 < a.toInt - m.toInt - borrowOf c) ↔
      (a ^^^ subResult a m c) &&& ((m ^^^ 0xFF) ^^^ subResult a m c) &&& 0x80 ≠ 0 := by
  rw [← add_complement_toInt]
  exact addResult_overflow_iff a (m ^^^ 0xFF) c

theorem subFlags_eq (a m : Byte) (p : Flags) : subFlags a m p = { p with
    c := decide (m.toNat + borrowOf p.c ≤ a.toNat)
    v := decide (a.toInt - m.toInt - borrowOf p.c < -128 ∨ 127 < a.toInt - m.toInt - borrowOf p.c)
    z := decide (subResult a m p.c = 0)
    n := (subResult a m p.c).getLsbD 7 } := by
  have hc := carry_add_complement_iff a m p.c
  rw [subResult, subFlags, addFlags_eq, decide_eq_decide.2 hc, add_complement_toInt]

theorem subFromA_eq (o : Operand) (s : State) : subFromA o s = (s.operandRead o).retireWith o.length
    (subResult s.a (s.operandValue o) s.p.c) s.x s.y s.sp (subFlags s.a (s.operandValue o) s.p) := by
  simp [subFromA, State.retireWith]

/-- SBC has two immediate opcodes (R263) and no `zp,Y` form (R171). -/
theorem sbcForms_run : FormsRun sbcForms subFromA
  | .imm _, _ => List.forall_mem_cons.2 ⟨⟨rfl, rfl⟩, List.forall_mem_singleton.2 ⟨rfl, rfl⟩⟩
  | .mem (.zp _), _ | .mem (.zpx _), _ | .mem (.abs _), _ | .mem (.abx _), _ | .mem (.aby _), _
  | .mem (.izx _), _ | .mem (.izy _), _ => List.forall_mem_singleton.2 ⟨rfl, rfl⟩
  | .mem (.zpy _), _ => List.forall_mem_nil _

/-- Settles O29: the forms run as the one subtraction, an addition of the complement whose result and flags are those of
the difference. -/
theorem subtractWithCarry : Obligations.SubtractWithCarry := by
  intro o s m borrow r signed
  have hr : subResult s.a m s.p.c = r := subResult_eq s.a m s.p.c
  have hflags := subFlags_eq s.a m s.p
  have hoverflow := subResult_overflow_iff s.a m s.p.c
  rw [hr] at hflags hoverflow
  refine ⟨sbcForms_run.readOnly ?_, hoverflow⟩
  rw [subFromA_eq, hr, hflags]
  rfl

/-! ## Compares -/

theorem compareWith_eq (r : Byte) (o : Operand) (s : State) : compareWith r o s =
    (s.operandRead o).retireWith o.length s.a s.x s.y s.sp (compareFlags r (s.operandValue o) s.p) := by
  simp [compareWith, State.retireWith]

/-- CMP has no `zp,Y` form (R172). -/
theorem cmpForms_run : FormsRun cmpForms fun o s => compareWith s.a o s
  | .imm _, _ | .mem (.zp _), _ | .mem (.zpx _), _ | .mem (.abs _), _ | .mem (.abx _), _ | .mem (.aby _), _
  | .mem (.izx _), _ | .mem (.izy _), _ => List.forall_mem_singleton.2 ⟨rfl, rfl⟩
  | .mem (.zpy _), _ => List.forall_mem_nil _

/-- CPX has no indexed form (R173). -/
theorem cpxForms_run : FormsRun cpxForms fun o s => compareWith s.x o s
  | .imm _, _ | .mem (.zp _), _ | .mem (.abs _), _ => List.forall_mem_singleton.2 ⟨rfl, rfl⟩
  | .mem (.zpx _), _ | .mem (.zpy _), _ | .mem (.abx _), _ | .mem (.aby _), _ | .mem (.izx _), _
  | .mem (.izy _), _ => List.forall_mem_nil _

/-- CPY has no indexed form (R174). -/
theorem cpyForms_run : FormsRun cpyForms fun o s => compareWith s.y o s
  | .imm _, _ | .mem (.zp _), _ | .mem (.abs _), _ => List.forall_mem_singleton.2 ⟨rfl, rfl⟩
  | .mem (.zpx _), _ | .mem (.zpy _), _ | .mem (.abx _), _ | .mem (.aby _), _ | .mem (.izx _), _
  | .mem (.izy _), _ => List.forall_mem_nil _

/-- Settles O30: the forms of each mnemonic run as the one compare with its register, which is the operand's read with
new flags and no new register. -/
theorem compares : Obligations.Compares := fun o s =>
  ⟨cmpForms_run.readOnly (compareWith_eq s.a o s), cpxForms_run.readOnly (compareWith_eq s.x o s),
    cpyForms_run.readOnly (compareWith_eq s.y o s)⟩

/-! ## Index increments -/

/-- INX, INY, DEX and DEY leave in the index what INC and DEC leave in memory (R177 to R180). -/
theorem exec_indexIncrements (s : State) :
    exec .inx s = .next (s.idle.retireWith 1 s.a (incValue s.x s.p) s.y s.sp (s.p.setZN (incValue s.x s.p))) ∧
    exec .iny s = .next (s.idle.retireWith 1 s.a s.x (incValue s.y s.p) s.sp (s.p.setZN (incValue s.y s.p))) ∧
    exec .dex s = .next (s.idle.retireWith 1 s.a (decValue s.x s.p) s.y s.sp (s.p.setZN (decValue s.x s.p))) ∧
    exec .dey s = .next (s.idle.retireWith 1 s.a s.x (decValue s.y s.p) s.sp (s.p.setZN (decValue s.y s.p))) :=
  ⟨rfl, rfl, rfl, rfl⟩

/-- Settles O32: each is the dummy read with the index moved by one modulo 256. -/
theorem indexIncrements : Obligations.IndexIncrements := by
  intro s up down
  have hmoves := exec_indexIncrements s
  simp only [incValue_eq, decValue_eq] at hmoves
  obtain ⟨hinx, hiny, hdex, hdey⟩ := hmoves
  exact ⟨implied_of_exec rfl hinx, implied_of_exec rfl hiny, implied_of_exec rfl hdex, implied_of_exec rfl hdey⟩

end Sys2Proof.Machine
end

section
/-! SUPPORT. Bitwise logic and the bit test on an operand (R190 to R193): AND, ORA and EOR are one function of the byte
operation they apply, so their read cycles and frame are said once for any such operation. -/

namespace Sys2Proof.Machine

/-! ## AND, ORA and EOR -/

/-- Z and N are those of the byte that goes to A, for any byte operation `f`. -/
theorem logicA_eq (f : Byte → Byte → Byte) (o : Operand) (s : State) : logicA f o s =
    (s.operandRead o).retireWith o.length
      (f s.a (s.operandValue o)) s.x s.y s.sp (s.p.setZN (f s.a (s.operandValue o))) := by
  simp [logicA, State.retireWith]

/-- AND has no `zp,Y` form (R190). -/
theorem andForms_run : FormsRun andForms (logicA (· &&& ·))
  | .imm _, _ | .mem (.zp _), _ | .mem (.zpx _), _ | .mem (.abs _), _ | .mem (.abx _), _ | .mem (.aby _), _
  | .mem (.izx _), _ | .mem (.izy _), _ => List.forall_mem_singleton.2 ⟨rfl, rfl⟩
  | .mem (.zpy _), _ => List.forall_mem_nil _

/-- ORA has no `zp,Y` form (R191). -/
theorem oraForms_run : FormsRun oraForms (logicA (· ||| ·))
  | .imm _, _ | .mem (.zp _), _ | .mem (.zpx _), _ | .mem (.abs _), _ | .mem (.abx _), _ | .mem (.aby _), _
  | .mem (.izx _), _ | .mem (.izy _), _ => List.forall_mem_singleton.2 ⟨rfl, rfl⟩
  | .mem (.zpy _), _ => List.forall_mem_nil _

/-- EOR has no `zp,Y` form (R192). -/
theorem eorForms_run : FormsRun eorForms (logicA (· ^^^ ·))
  | .imm _, _ | .mem (.zp _), _ | .mem (.zpx _), _ | .mem (.abs _), _ | .mem (.abx _), _ | .mem (.aby _), _
  | .mem (.izx _), _ | .mem (.izy _), _ => List.forall_mem_singleton.2 ⟨rfl, rfl⟩
  | .mem (.zpy _), _ => List.forall_mem_nil _

/-- Settles O33: the forms of each mnemonic run as the one logic function at its byte operation, which is the operand's
read with a new A and the flags of that A. -/
theorem logicOperations : Obligations.LogicOperations := fun o s =>
  ⟨andForms_run.readOnly (logicA_eq (· &&& ·) o s), oraForms_run.readOnly (logicA_eq (· ||| ·) o s),
    eorForms_run.readOnly (logicA_eq (· ^^^ ·) o s)⟩

/-! ## BIT -/

theorem bitTest_eq (o : Operand) (s : State) : bitTest o s = (s.operandRead o).retireWith o.length
    s.a s.x s.y s.sp (bitFlags s.a (s.operandValue o) s.p) := by
  simp [bitTest, State.retireWith]

/-- BIT has no immediate and no indexed form (R193). -/
theorem bitForms_run : FormsRun bitForms bitTest
  | .mem (.zp _), _ | .mem (.abs _), _ => List.forall_mem_singleton.2 ⟨rfl, rfl⟩
  | .imm _, _ | .mem (.zpx _), _ | .mem (.zpy _), _ | .mem (.abx _), _ | .mem (.aby _), _ | .mem (.izx _), _
  | .mem (.izy _), _ => List.forall_mem_nil _

/-- Settles O34: both forms run as the one bit test, which is the operand's read with new flags and no new register. (The
name `bitTest` is the model's function.) -/
theorem bitTest_completes : Obligations.BitTest := fun o s => bitForms_run.readOnly (bitTest_eq o s)

end Sys2Proof.Machine
end

section
/-! SUPPORT. Control transfer (44_control_transfer.md, R210 to R222). Branches, jumps and RTS are one thing,
`State.jumpAfter`: read cycles, then a new `pc` and at most a new S, so their frame is said once; JSR, which stores, is two
pushes and a read. -/

namespace Sys2Proof.Machine

/-! ## Read cycles, then a new `pc` -/

/-- Everything a list of read cycles can do. -/
theorem readCycles_eq (as : List Word) (s : State) : s.readCycles as = { s with
    bus := (s.readCycles as).bus, inputs := (s.readCycles as).inputs, draws := (s.readCycles as).draws } := by
  induction as generalizing s with
  | nil => rfl
  | cons a as ih => exact ih (s.readCycle a)

/-- The read cycles at `as`, then `sp` in S and `target` in `pc`. The instructions of the model are tied to it by their own
equations (`branchIf_eq_jumpAfter`, `exec_jmpAbs`, `exec_jmpInd`, `returnFromSubroutine_eq_jumpAfter`). -/
def State.jumpAfter (s : State) (as : List Word) (sp : Byte) (target : Word) : State :=
  { s.readCycles as with sp := sp }.retireAt target

/-- What a jump leaves but for `pc`: the flags and A, X, Y, `sp` in S, nothing stored, and the traffic of its reads. -/
theorem jumpAfter_frame (s : State) (as : List Word) (sp : Byte) (target : Word) :
    (s.jumpAfter as sp target).iPoll = s.p.i ∧ (s.jumpAfter as sp target).p = s.p ∧
    Registers s.a s.x s.y sp (s.jumpAfter as sp target) ∧ NoStore s (s.jumpAfter as sp target) ∧
    SameTraffic (s.readCycles as) (s.jumpAfter as sp target) := by
  have htraffic : SameTraffic (s.readCycles as) (s.jumpAfter as sp target) := ⟨rfl, rfl, rfl⟩
  refine ⟨?iPoll, ?flags, ?registers, ?noStore, htraffic⟩ <;> rw [State.jumpAfter, readCycles_eq]
  case iPoll | flags => rfl
  case registers => exact ⟨rfl, rfl, rfl, rfl⟩
  case noStore => exact ⟨fun _ => rfl, ⟨rfl, rfl, rfl⟩, ⟨rfl, rfl, rfl, rfl, rfl, rfl, rfl, rfl, rfl⟩⟩

/-! ## Branches -/

/-- The branch target as a number: the offset is signed and the sum wraps (R115, R210). -/
theorem branchTarget_toNat (pc : Word) (r : Byte) :
    ((branchTarget pc r).toNat : Int) = ((pc.toNat : Int) + 2 + r.toInt) % 65536 := by
  have hsum : branchTarget pc r = BitVec.ofInt 16 ((pc.toNat : Int) + 2 + r.toInt) := by
    rw [BitVec.ofInt_add, BitVec.ofInt_add, BitVec.ofInt_natCast, BitVec.ofNat_toNat, BitVec.setWidth_eq]
    rfl
  rw [hsum, BitVec.toNat_ofInt]
  exact Int.toNat_of_nonneg (Int.emod_nonneg _ (by decide))

/-- Where a branch goes: to its target if taken, else to the next instruction (R210). -/
def branchPc (taken : Bool) (pc : Word) (r : Byte) : Word := if taken then branchTarget pc r else pc + 2

theorem branchPc_toNat (taken : Bool) (pc : Word) (r : Byte) : ((branchPc taken pc r).toNat : Int) =
    if taken then ((pc.toNat : Int) + 2 + r.toInt) % 65536 else (pc.toNat + 2) % 65536 := by
  cases taken with
  | true => exact branchTarget_toNat pc r
  | false => exact congrArg Int.ofNat (BitVec.toNat_add pc 2)

/-- The dummy reads of a branch that ends at `target`, `next` being the address of the next instruction (R375). -/
def branchReads (taken : Bool) (next target : Word) : List Word :=
  if taken then if hiByte target = hiByte next then [next] else [next, wordOf (loByte target) (hiByte next)] else []

/-- A branch is its dummy reads and then the jump; the cases are those of R375. -/
theorem branchIf_eq_jumpAfter (taken : Bool) (r : Byte) (s : State) : branchIf taken r s =
    s.jumpAfter (branchReads taken (s.pc + 2) (branchPc taken s.pc r)) s.sp (branchPc taken s.pc r) := by
  cases taken with
  | false => rfl
  | true =>
    by_cases hpage : hiByte (branchTarget s.pc r) = hiByte (s.pc + 2)
    · simp only [branchIf, branchReads, branchPc, if_true, if_pos hpage]; rfl
    · simp only [branchIf, branchReads, branchPc, if_true, if_neg hpage]; rfl

/-- The eight branches differ in their opcode and in the flag they read (R211 to R218). -/
theorem branchForms_run : ∀ f ∈ branchForms, ∀ (r : Byte) (s : State),
    encode (f.branch r) = [f.opcode, r] ∧ exec (f.branch r) s = .next (branchIf (f.taken s.p) r s) := by
  simp only [branchForms, List.forall_mem_cons]
  refine ⟨?bpl, ?bmi, ?bvc, ?bvs, ?bcc, ?bcs, ?bne, ?beq, List.forall_mem_nil _⟩ <;> exact fun _ _ => ⟨rfl, rfl⟩

/-- Settles O37: a branch form runs as `branchIf` on its flag, which is its dummy reads and a jump. -/
theorem branches : Obligations.Branches := by
  intro f hf r s
  obtain ⟨hencode, hexec⟩ := branchForms_run f hf r s
  rw [branchIf_eq_jumpAfter] at hexec
  exact ⟨hencode, _, hexec, branchPc_toNat (f.taken s.p) s.pc r, jumpAfter_frame ..⟩

/-! ## JMP -/

/-- The second byte of a pointer is the next one in the pointer's page (R116, R220). -/
theorem pointerHigh_eq (w : Word) : pointerHigh w = BitVec.ofNat 16 (w.toNat / 256 * 256 + (w.toNat + 1) % 256) := by
  apply BitVec.eq_of_toNat_eq
  rw [pointerHigh, wordOf_toNat, hiByte_toNat, BitVec.toNat_add, loByte_toNat, BitVec.toNat_ofNat]
  have hw := w.isLt
  have hone : (1 : Byte).toNat = 1 := rfl
  omega

theorem exec_jmpAbs (w : Word) (s : State) : exec (.jmpAbs w) s = .next (s.jumpAfter [] s.sp w) := rfl

theorem exec_jmpInd (w : Word) (s : State) : exec (.jmpInd w) s = .next (s.jumpAfter [w, pointerHigh w] s.sp
    (wordOf (s.busRead w) ((s.readCycle w).busRead (pointerHigh w)))) := rfl

/-- Settles O38: both forms are their pointer's reads and a jump; where storage answers, the reads return its bytes. -/
theorem jumps : Obligations.Jumps := by
  intro w s
  refine ⟨⟨rfl, _, exec_jmpAbs w s, rfl, jumpAfter_frame s [] s.sp w⟩, ?_⟩
  rw [← pointerHigh_eq]
  refine ⟨rfl, _, exec_jmpInd w s, rfl, fun lo hi hlo hhi => ?_, jumpAfter_frame ..⟩
  exact congrArg₂ wordOf (busRead_of_byteAt hlo) (busRead_of_byteAt (s := s.readCycle w) hhi)

/-! ## RTS -/

/-- The word RTS pulls, low byte first (R222). -/
def State.pulledWord (s : State) : Word := wordOf s.pullValue s.pulled.pullValue

theorem pulledWord_of_byteAt {s : State} {lo hi : Byte} (hlo : s.byteAt (stackAddress (s.sp + 1)) = some lo)
    (hhi : s.byteAt (stackAddress (s.sp + 2)) = some hi) : s.pulledWord = wordOf lo hi := by
  refine congrArg₂ wordOf (busRead_of_byteAt hlo) (busRead_of_byteAt ?_)
  rw [pulled_byteAt, pulled_sp]
  exact (congrArg (fun p => s.byteAt (stackAddress p)) (byte_add_one_one s.sp)).trans hhi

theorem pulled_pulled_eq (s : State) : s.pulled.pulled =
    { s.readCycles [stackAddress (s.sp + 1), stackAddress (s.sp + 2)] with sp := s.sp + 2 } := by
  have hsp : s.sp + 2 = s.sp + 1 + 1 := (byte_add_one_one s.sp).symm
  rw [hsp]
  rfl

/-- RTS is its two dummy reads, its two pulls and the dummy read of the pulled address, then a jump behind it (R376). -/
theorem returnFromSubroutine_eq_jumpAfter (s : State) : returnFromSubroutine s =
    s.jumpAfter [s.pc + 1, stackAddress s.sp, stackAddress (s.sp + 1), stackAddress (s.sp + 2),
      s.idle.stackIdle.pulledWord] (s.sp + 2) (s.idle.stackIdle.pulledWord + 1) := by
  have hpulls := pulled_pulled_eq s.idle.stackIdle
  rw [stackIdle_sp, idle_sp] at hpulls
  simp only [returnFromSubroutine, hpulls]
  rfl

/-- Settles O40: the word that RTS pulls is that of the two bytes above S, and RTS jumps behind it. (The
name `returnFromSubroutine` is the model's function.) -/
theorem returnFromSubroutine_completes : Obligations.ReturnFromSubroutine := by
  intro s lo hi hlo hhi
  have hword : s.idle.stackIdle.pulledWord = wordOf lo hi := pulledWord_of_byteAt (by simpa using hlo) (by simpa using hhi)
  have hexec : exec .rts s = .next (returnFromSubroutine s) := rfl
  rw [returnFromSubroutine_eq_jumpAfter, hword] at hexec
  have hpc : (wordOf lo hi + 1).toNat = (hi.toNat * 256 + lo.toNat + 1) % 65536 := by
    rw [BitVec.toNat_add, wordOf_toNat]; rfl
  obtain ⟨hiPoll, hflags, hregisters, hnoStore, htraffic⟩ := jumpAfter_frame s _ (s.sp + 2) (wordOf lo hi + 1)
  exact ⟨rfl, _, hexec, hpc, hregisters, hflags, hiPoll, hnoStore, htraffic⟩

/-! ## JSR -/

/-- A second push lands one cell lower, so the byte of the first stays. -/
theorem push_push_byteAt_top (s : State) (h l : Byte) :
    ((s.push h).push l).byteAt (stackAddress s.sp) = some h := by
  have hcell : s.target (stackAddress s.sp) ≠ s.target (stackAddress (s.sp - 1)) := by
    rw [Ne, stackAddress_target_inj]; bv_omega
  rw [push_sameMemoryBut (s.push h) l _ (List.forall_mem_singleton.2 hcell), push_byteAt_top]

theorem push_push_sameMemoryBut (s : State) (h l : Byte) :
    SameMemoryBut [stackAddress s.sp, stackAddress (s.sp - 1)] s ((s.push h).push l) := by
  intro a ha
  obtain ⟨hfirst, hsecond⟩ := List.forall_mem_cons.1 ha
  rw [push_sameMemoryBut (s.push h) l a hsecond, push_sameMemoryBut s h a (List.forall_mem_singleton.2 hfirst)]

/-- The state in which JSR reads the high byte of its target: after its dummy read and its pushes (R221, R376). -/
def State.returnPushed (s : State) : State := (s.stackIdle.push (hiByte (s.pc + 2))).push (loByte (s.pc + 2))

/-- After the pushes JSR stores nothing more: one read, then the jump. -/
theorem exec_jsrAbs (w : Word) (s : State) : exec (.jsrAbs w) s = .next ((s.returnPushed.readCycle (s.pc + 2)).retireAt
    (wordOf (loByte w) (s.returnPushed.busRead (s.pc + 2)))) := rfl

/-- Settles O39, from the rules of two pushes in a row; the target's high byte is what stands at `pc + 2` after them. -/
theorem jumpToSubroutine : Obligations.JumpToSubroutine := by
  intro w s
  have hmemory (a : Word) : ((s.returnPushed.readCycle (s.pc + 2)).retireAt
      (wordOf (loByte w) (s.returnPushed.busRead (s.pc + 2)))).byteAt a = s.returnPushed.byteAt a := by
    rw [retireAt_byteAt, readCycle_byteAt]
  refine ⟨rfl, _, exec_jsrAbs w s, ?high, ?low, ?others, ?pc, ?registers, ?flags, ?iPoll, ?devices, ?pins, ?bus⟩
  case high => rw [hmemory]; exact push_push_byteAt_top s.stackIdle _ _
  case low => rw [hmemory]; exact push_byteAt_top (s.stackIdle.push _) _
  case others => intro a ha; rw [hmemory]; exact push_push_sameMemoryBut s.stackIdle _ _ a ha
  case pc => intro hi hhi; rw [hmemory] at hhi; exact congrArg (wordOf (loByte w)) (busRead_of_byteAt hhi)
  case registers | devices | pins => constructor <;> simp [State.returnPushed]
  case flags | iPoll | bus => simp [State.returnPushed]

end Sys2Proof.Machine
end

section
/-! SUPPORT. The undocumented combinations that store nothing (46_unofficial.md, R256, R259 to R262, R265): LAX and LAS are
loads into several registers, the others are an immediate's operation on A, or on A and X, with carries of their own. -/

namespace Sys2Proof.Machine

/-! ## LAX and LAS -/

theorem loadAX_eq (o : Operand) (s : State) : loadAX o s = (s.operandRead o).retireWith o.length
    (s.operandValue o) (s.operandValue o) s.y s.sp (s.p.setZN (s.operandValue o)) := by
  simp [loadAX, State.retireWith]

theorem loadAXS_eq (o : Operand) (s : State) : loadAXS o s = (s.operandRead o).retireWith o.length
    (s.operandValue o &&& s.sp) (s.operandValue o &&& s.sp) s.y (s.operandValue o &&& s.sp)
    (s.p.setZN (s.operandValue o &&& s.sp)) := by
  simp [loadAXS, State.retireWith]

/-- LAX has no immediate form among the stable opcodes, and is indexed by Y only (R256). -/
theorem laxForms_run : FormsRun laxForms loadAX
  | .mem (.zp _), _ | .mem (.zpy _), _ | .mem (.abs _), _ | .mem (.aby _), _ | .mem (.izx _), _ | .mem (.izy _), _ =>
    List.forall_mem_singleton.2 ⟨rfl, rfl⟩
  | .imm _, _ | .mem (.zpx _), _ | .mem (.abx _), _ => List.forall_mem_nil _

/-- LAS has the one form `abs,Y` (R265). -/
theorem lasForms_run : FormsRun lasForms loadAXS
  | .mem (.aby _), _ => List.forall_mem_singleton.2 ⟨rfl, rfl⟩
  | .imm _, _ | .mem (.zp _), _ | .mem (.zpx _), _ | .mem (.zpy _), _ | .mem (.abs _), _ | .mem (.abx _), _
  | .mem (.izx _), _ | .mem (.izy _), _ => List.forall_mem_nil _

/-- Settles O47: the forms run as the two loads, each of which is the operand's read with one byte in its registers. -/
theorem loadCombinations : Obligations.LoadCombinations := fun o s =>
  ⟨laxForms_run.readOnly (loadAX_eq o s), lasForms_run.readOnly (loadAXS_eq o s)⟩

/-! ## ANC, ALR, ARR and AXS -/

/-- The fetch has read the immediate, so an instruction that then leaves these registers and flags has the frame of a
read (R106). -/
theorem immediate_of_exec {i : Instr} {op n : Byte} {s : State} {a x y sp : Byte} {p : Flags}
    (hencode : encode i = [op, n]) (hexec : exec i s = .next (s.retireWith 2 a x y sp p)) :
    encode i = [op, n] ∧ ∃ t, exec i s = .next t ∧ ReadOnly (.imm n) s t ∧ Registers a x y sp t ∧ t.p = p :=
  ⟨hencode, _, hexec, retireWith_readOnly (.imm n) s a x y sp p, retireWith_registers, retireWith_p⟩

/-- ARR's byte is the rotation of `A AND n` (R261). -/
theorem arrResult_eq (a m : Byte) (p : Flags) :
    arrResult a m p = BitVec.ofNat 8 ((a &&& m).toNat / 2 + 128 * p.c.toNat) := rorValue_eq (a &&& m) p

theorem byte_sub_eq (r m : Byte) : r - m = BitVec.ofNat 8 (r.toNat + 256 - m.toNat) := by
  have hm := m.isLt
  rw [BitVec.sub_def]
  exact congrArg (BitVec.ofNat 8) (by omega)

/-- Z of a compare is Z of the difference, so a compare sets Z and N as a load of the difference does (R172). -/
theorem compareFlags_eq_setZN (r m : Byte) (p : Flags) :
    compareFlags r m p = { p.setZN (r - m) with c := decide (m.toNat ≤ r.toNat) } := by
  simp only [compareFlags, Flags.setZN, sub_eq_zero]

/-- The two ANC opcodes run alike (R259); ALR and ARR take their carries from `A AND n` and from the result. -/
theorem exec_andCombinations (n : Byte) (s : State) :
    let t := s.a &&& n
    let anc := State.retireWith s 2 t s.x s.y s.sp { s.p.setZN t with c := t.getLsbD 7 }
    let alr := lsrValue t s.p
    let arr := arrResult s.a n s.p
    exec (.ancImm0B n) s = .next anc ∧ exec (.ancImm2B n) s = .next anc ∧
    exec (.alrImm n) s = .next (s.retireWith 2 alr s.x s.y s.sp { s.p.setZN alr with c := t.getLsbD 0 }) ∧
    exec (.arrImm n) s = .next (s.retireWith 2 arr s.x s.y s.sp
      { s.p.setZN arr with c := arr.getLsbD 6, v := (arr.getLsbD 6).xor (arr.getLsbD 5) }) := ⟨rfl, rfl, rfl, rfl⟩

theorem exec_axsImm (n : Byte) (s : State) : exec (.axsImm n) s = .next (s.retireWith 2 s.a ((s.a &&& s.x) - n) s.y s.sp
    { s.p.setZN ((s.a &&& s.x) - n) with c := decide (n.toNat ≤ (s.a &&& s.x).toNat) }) := by
  rw [← compareFlags_eq_setZN]
  rfl

/-- Settles O48: each is the fetched immediate with new registers and flags, whose bytes are the numbers of R259 to
R262. -/
theorem immediateCombinations : Obligations.ImmediateCombinations := by
  intro n s anc alr arr axs
  have hand := exec_andCombinations n s
  simp only [lsrValue_eq, arrResult_eq] at hand
  obtain ⟨hanc0B, hanc2B, halr, harr⟩ := hand
  have haxs := exec_axsImm n s
  rw [byte_sub_eq] at haxs
  exact ⟨immediate_of_exec rfl hanc0B, immediate_of_exec rfl hanc2B, immediate_of_exec rfl halr,
    immediate_of_exec rfl harr, immediate_of_exec rfl haxs⟩

end Sys2Proof.Machine
end

section
/-! SUPPORT. The address map under a read and a write cycle (R61 to R71), the effective addresses (R107 to R117), the bus
cycles that form them (R373, R374), and the operand that stands there (R118). -/

namespace Sys2Proof.Machine

/-! ## The address map -/

theorem target_internal (s : State) {a : Word} (h : a.toNat < 0x2000) : s.target a = .ram (a.toNat % 0x800) := if_pos h

/-- From $2000 to $401F no storage answers (R63 to R65). -/
theorem byteAt_registers (s : State) {a : Word} (hlo : 0x2000 ≤ a.toNat) (hhi : a.toNat < 0x4020) :
    s.byteAt a = none := by
  unfold State.byteAt State.target
  rw [if_neg (by omega)]
  split_ifs <;> rfl

/-- The three places where RAM answers (R62, R69). -/
theorem target_eq_ram_iff (s : State) (a : Word) (c : Nat) : s.target a = .ram c ↔
    (a.toNat < 0x2000 ∧ a.toNat % 0x800 = c) ∨
      (0x4020 ≤ a.toNat ∧ s.cart.kindAt a.toNat = .ram ∧ a.toNat = c) := by
  unfold State.target
  split_ifs
  · simp only [Target.ram.injEq]; omega
  · simp; omega
  · simp; omega
  · simp; omega
  · cases hkind : s.cart.kindAt a.toNat <;> simp <;> omega

/-- Settles O16: which byte a read returns follows the branches of the address map. -/
theorem readCycleFollowsAddressMap : Obligations.ReadCycleFollowsAddressMap := by
  intro s a
  refine ⟨fun h => ?internal, fun hlo hhi => ?registers, fun h => ?cart, rfl⟩
  case internal => rw [State.busRead, State.byteAt, target_internal s h]; rfl
  case registers => rw [State.busRead, byteAt_registers s hlo hhi]; rfl
  case cart =>
    unfold State.busRead State.byteAt State.target
    rw [if_neg (by omega), if_neg (by omega), if_neg (by omega), if_neg (by omega)]
    cases s.cart.kindAt a.toNat <;> rfl

theorem ramAt_iff (s : State) (a : Word) : s.ramAt a = true ↔ ∃ c, s.target a = .ram c := by
  unfold State.ramAt
  cases s.target a <;> simp

theorem writeCycle_samePins (s : State) (a : Word) (v : Byte) : SamePins s (s.writeCycle a v) :=
  ⟨rfl, rfl, rfl, rfl, rfl, rfl, rfl, rfl, rfl⟩

/-- What a write leaves of a byte, where RAM answers: the byte of its cell is the one written. -/
theorem writeCycle_byteAt_ram {s : State} {a : Word} {c : Nat} (h : s.target a = .ram c) (v : Byte) (b : Word) :
    (s.writeCycle a v).byteAt b = if s.target b = .ram c then some v else s.byteAt b := by
  have hram : s.ramAt a = true := (ramAt_iff s a).2 ⟨c, h⟩
  rw [writeCycle_byteAt, h]
  simp only [hram, true_and]

/-- Settles O17: `target_eq_ram_iff` says which addresses share the written cell. -/
theorem writeCycleFollowsAddressMap : Obligations.WriteCycleFollowsAddressMap := by
  intro s a b v
  refine ⟨fun h => ?internal, fun h hkind => ?cartRam, fun h hkind => ?nowhere, rfl, writeCycle_samePins s a v, rfl,
    ⟨rfl, rfl, rfl, rfl⟩, rfl, rfl⟩
  case internal =>
    rw [writeCycle_byteAt_ram (target_internal s h)]
    refine if_congr ?_ rfl rfl
    rw [target_eq_ram_iff]
    omega
  case cartRam =>
    have htarget : s.target a = .ram a.toNat := (target_eq_ram_iff s a _).2 (.inr ⟨h, hkind, rfl⟩)
    rw [writeCycle_byteAt_ram htarget]
    refine if_congr ?_ rfl rfl
    rw [target_eq_ram_iff]
    constructor
    · rintro (⟨hb, hcell⟩ | ⟨_, _, hcell⟩)
      · omega
      · exact BitVec.eq_of_toNat_eq hcell
    · rintro rfl
      exact .inr ⟨h, hkind, rfl⟩
  case nowhere =>
    have hram : ¬ s.ramAt a = true := by
      rw [ramAt_iff]
      rintro ⟨c, hc⟩
      rcases (target_eq_ram_iff s a c).1 hc with ⟨hlow, _⟩ | ⟨hhigh, hram, _⟩
      · omega
      · exact hkind hhigh hram
    rw [writeCycle_byteAt, if_neg (fun hboth => hram hboth.1)]

/-! ## Effective addresses -/

/-- A zero-page pointer as a number (R117). -/
theorem pointerAt_toNat (s : State) (z : Byte) : (s.pointerAt z).toNat =
    (s.ramByte ((z.toNat + 1) % 256)).toNat * 256 + (s.ramByte (z.toNat % 256)).toNat := by
  have hz : (z + 1).toNat = (z.toNat + 1) % 256 := BitVec.toNat_add z 1
  rw [State.pointerAt, wordOf_toNat, busRead_zeroPage, busRead_zeroPage, hz, Nat.mod_eq_of_lt z.isLt]

theorem ea_toNat (s : State) (m : Mode) : (s.ea m).toNat = ((s.base m).toNat + (s.index m).toNat) % 65536 := by
  rw [State.ea, BitVec.toNat_add, zext16_toNat]

/-- A page cross is a carry out of the low byte of the base (R111). -/
theorem pageCross_eq (s : State) (m : Mode) :
    s.pageCross m = decide (256 ≤ (s.base m).toNat % 256 + (s.index m).toNat) :=
  crossing_iff (s.base m) (s.index m)

/-- The other modes add nothing with carry. -/
theorem index_of_not_carries (s : State) {m : Mode} (h : m.carries = false) : s.index m = 0 := by
  cases m with
  | abx w | aby w | izy z => cases h
  | zp z | zpx z | zpy z | abs w | izx z => rfl

theorem ea_of_not_carries (s : State) {m : Mode} (h : m.carries = false) : s.ea m = s.base m := by
  rw [State.ea, index_of_not_carries s h]
  exact BitVec.add_zero _

theorem pageCross_of_not_carries (s : State) {m : Mode} (h : m.carries = false) : s.pageCross m = false := by
  rw [State.pageCross, ea_of_not_carries s h, bne_self_eq_false]

/-- Settles O20: each mode is its base and its index, added as numbers. -/
theorem effectiveAddresses : Obligations.EffectiveAddresses := by
  intro s z w ptr
  have hizx : (s.pointerAt (z + s.x)).toNat = ptr (z.toNat + s.x.toNat) := by
    have hwrap (n : Nat) : (n % 256 + 1) % 256 = (n + 1) % 256 := Nat.mod_add_mod n 256 1
    rw [pointerAt_toNat, BitVec.toNat_add, hwrap, Nat.mod_mod]
  have hizy : (s.pointerAt z).toNat = ptr z.toNat := pointerAt_toNat s z
  refine ⟨?zp, ?zpx, ?zpy, ?abs, ea_toNat s (.abx w), ea_toNat s (.aby w), ?izx, ?izy, pageCross_eq s (.abx w),
    pageCross_eq s (.aby w), ?izyCross, pageCross_of_not_carries s rfl, pageCross_of_not_carries s rfl,
    pageCross_of_not_carries s rfl, pageCross_of_not_carries s rfl, pageCross_of_not_carries s rfl⟩
  case abs => exact ea_of_not_carries s rfl
  case zp => rw [ea_of_not_carries s rfl]; exact zext16_toNat z
  case zpx => rw [ea_of_not_carries s rfl]; exact (zext16_toNat _).trans (BitVec.toNat_add z s.x)
  case zpy => rw [ea_of_not_carries s rfl]; exact (zext16_toNat _).trans (BitVec.toNat_add z s.y)
  case izx => rw [ea_of_not_carries s rfl]; exact hizx
  case izy => rw [← hizy]; exact ea_toNat s (.izy z)
  case izyCross => rw [← hizy]; exact pageCross_eq s (.izy z)

/-! ## The bus cycles of a mode -/

/-- The reads a mode makes between the operand bytes and the address, newest first (R373, R374). -/
def State.pointerReads (s : State) : Mode → List BusCycle
  | .zp _ | .abs _ | .abx _ | .aby _ => []
  | .zpx z | .zpy z => [.read (zext16 z)]
  | .izx z => [.read (zext16 (z + s.x + 1)), .read (zext16 (z + s.x)), .read (zext16 z)]
  | .izy z => [.read (zext16 (z + 1)), .read (zext16 z)]

/-- The dummy read of `w` that a mode with an added index may make (R374). -/
def State.indexedReads (s : State) (m : Mode) : List BusCycle := if m.carries then [.read (s.uncarried m)] else []

theorem pointerCycles_bus (s : State) (m : Mode) : (s.pointerCycles m).bus = s.pointerReads m ++ s.bus := by
  cases m <;> rfl

/-- A read makes the dummy read of `w` on a page cross, the other accesses always (R374). -/
theorem addressed_bus (s : State) (m : Mode) (k : Access) : (s.addressed m k).bus =
    (if k = .read ∧ s.pageCross m = false then [] else s.indexedReads m) ++ s.pointerReads m ++ s.bus := by
  unfold State.addressed State.indexedReads
  cases m.carries with
  | false => simp [pointerCycles_bus]
  | true => cases k <;> cases s.pageCross m <;> simp [pointerCycles_bus]

theorem addressed_read_bus (s : State) (m : Mode) : (s.addressed m .read).bus =
    (if s.pageCross m then s.indexedReads m else []) ++ s.pointerReads m ++ s.bus := by
  rw [addressed_bus]
  cases s.pageCross m <;> rfl

theorem addressed_write_bus (s : State) (m : Mode) :
    (s.addressed m .write).bus = s.indexedReads m ++ s.pointerReads m ++ s.bus := addressed_bus s m .write

theorem addressed_modify_bus (s : State) (m : Mode) :
    (s.addressed m .modify).bus = s.indexedReads m ++ s.pointerReads m ++ s.bus := addressed_bus s m .modify

theorem operandRead_bus (s : State) (m : Mode) : (s.operandRead (.mem m)).bus =
    .read (s.ea m) :: ((if s.pageCross m then s.indexedReads m else []) ++ s.pointerReads m ++ s.bus) :=
  congrArg (BusCycle.read (s.ea m) :: ·) (addressed_read_bus s m)

theorem stored_bus (s : State) (m : Mode) (v : Byte) :
    (s.stored m v).bus = .write (s.ea m) v :: (s.indexedReads m ++ s.pointerReads m ++ s.bus) := by
  rw [stored_eq, addressed_write_bus]

theorem modified_bus (s : State) (m : Mode) (v : Byte) : (s.modified m v).bus =
    .write (s.ea m) v :: .write (s.ea m) (s.modifyOld m) :: .read (s.ea m) ::
      (s.indexedReads m ++ s.pointerReads m ++ s.bus) := by
  rw [modified_eq, addressed_modify_bus]

/-- `w` is the effective address, less the carry into the page where there was one (R374). -/
theorem uncarried_eq (s : State) (m : Mode) :
    s.uncarried m = if s.pageCross m then s.ea m - 0x100 else s.ea m := by
  have hea := ea_toNat s m
  have hcross := pageCross_eq s m
  have hbase := (s.base m).isLt
  have hindex := (s.index m).isLt
  have hw : (s.uncarried m).toNat =
      (s.base m).toNat / 256 * 256 + ((s.base m).toNat % 256 + (s.index m).toNat) % 256 := by
    rw [State.uncarried, wordOf_toNat, hiByte_toNat, BitVec.toNat_add, loByte_toNat]
  have hpage : (0x100 : Word).toNat = 256 := rfl
  apply BitVec.eq_of_toNat_eq
  cases h : s.pageCross m with
  | true =>
    rw [h, eq_comm, decide_eq_true_iff] at hcross
    rw [if_pos rfl, BitVec.toNat_sub]
    omega
  | false =>
    rw [h, eq_comm, decide_eq_false_iff_not] at hcross
    rw [if_neg Bool.false_ne_true]
    omega

/-- Settles O21: an access is its mode's own reads, the dummy read of `w` and its own cycles. -/
theorem modesMakeTheirBusCycles : Obligations.ModesMakeTheirBusCycles := by
  intro s m v pointer w indexed
  have hpointer : s.pointerReads m = pointer := by cases m <;> rfl
  have hindexed : s.indexedReads m = indexed := by
    rw [State.indexedReads, uncarried_eq]
    cases m <;> rfl
  rw [← hpointer, ← hindexed]
  exact ⟨operandRead_bus s m, stored_bus s m v, modified_bus s m v, fun _ => rfl⟩

/-! ## The operand -/

/-- What a read finds where no storage answers: the environment's next byte (R70). -/
theorem busRead_of_none {s : State} {a : Word} (h : s.byteAt a = none) : s.busRead a = s.drawValue := by
  rw [State.busRead, h]; rfl

theorem operandRead_registers (o : Operand) (s : State) : Registers s.a s.x s.y s.sp (s.operandRead o) :=
  ⟨operandRead_a s o, operandRead_x s o, operandRead_y s o, operandRead_sp s o⟩

/-- Settles O22: forming the address stores nothing, so the access finds there what stood there before. -/
theorem operandIsTheByteAtItsAddress : Obligations.OperandIsTheByteAtItsAddress := fun s m =>
  have hbyte (k : Access) : (s.addressed m k).byteAt (s.ea m) = s.byteAt (s.ea m) := addressed_byteAt s m k _
  ⟨fun _ => rfl,
    fun _ h => ⟨busRead_of_byteAt ((hbyte .read).trans h), busRead_of_byteAt ((hbyte .modify).trans h)⟩,
    fun h => ⟨busRead_of_none ((hbyte .read).trans h), busRead_of_none ((hbyte .modify).trans h)⟩,
    fun o => ⟨operandRead_noStore o s, operandRead_registers o s, operandRead_p s o, operandRead_pc s o⟩⟩

end Sys2Proof.Machine
end

section
/-! SUPPORT. What the instructions do, said once for all 256: the mnemonic's meaning, by class of access, and the cycles of
R371. Every statement about all instructions is proved from `exec_runs` by cases on the class. -/

namespace Sys2Proof.Machine

/-! ## Cycle counts by class of access -/

/-- Cycles of an instruction that reads its operand (R371). -/
def State.operandCycles (s : State) : Operand → Nat
  | .imm _ => 2
  | .mem (.zp _) => 3
  | .mem (.zpx _) | .mem (.zpy _) | .mem (.abs _) => 4
  | .mem (.abx w) => 4 + s.crossing (.abx w)
  | .mem (.aby w) => 4 + s.crossing (.aby w)
  | .mem (.izx _) => 6
  | .mem (.izy z) => 5 + s.crossing (.izy z)

/-- Cycles of a store (R371). -/
def Mode.storeCycles : Mode → Nat
  | .zp _ => 3
  | .zpx _ | .zpy _ | .abs _ => 4
  | .abx _ | .aby _ => 5
  | .izx _ | .izy _ => 6

theorem operandRead_bus_length (s : State) (o : Operand) :
    (s.operandRead o).bus.length + (o.bytes.length + 1) = s.bus.length + s.operandCycles o := by
  cases o with
  | imm n => rfl
  | mem m =>
    rw [operandRead_bus]
    cases m with
    | zp z | zpx z | zpy z | abs w | izx z =>
      rw [pageCross_of_not_carries s rfl]
      simp [State.pointerReads, State.operandCycles, Operand.bytes, Mode.bytes]
    | abx w | aby w | izy z =>
      simp only [State.operandCycles, State.crossing]
      split <;> simp [State.pointerReads, State.indexedReads, Mode.carries, Operand.bytes, Mode.bytes]

/-- The cycles of forming the address of a store or a read-modify-write. -/
theorem addressReads_length (s : State) (m : Mode) :
    (s.indexedReads m ++ s.pointerReads m ++ s.bus).length + 1 + (m.bytes.length + 1) =
      s.bus.length + m.storeCycles := by
  cases m <;> simp [State.pointerReads, State.indexedReads, Mode.carries, Mode.bytes, Mode.storeCycles]

theorem stored_bus_length (s : State) (m : Mode) (v : Byte) :
    (s.stored m v).bus.length + (m.bytes.length + 1) = s.bus.length + m.storeCycles := by
  rw [stored_bus, ← addressReads_length, List.length_cons]

theorem modified_bus_length (s : State) (m : Mode) (v : Byte) :
    (s.modified m v).bus.length + (m.bytes.length + 1) = s.bus.length + (m.storeCycles + 2) := by
  have hreads := addressReads_length s m
  rw [modified_bus]
  simp only [List.length_cons]
  omega

/-! ## The meanings of the mnemonics -/

/-- The instructions that read an operand: mnemonic, operand, meaning. -/
inductive ReadRuns : String → Operand → (State → State) → Prop
  | lda (o) : ReadRuns "LDA" o (loadA o)
  | ldx (o) : ReadRuns "LDX" o (loadX o)
  | ldy (o) : ReadRuns "LDY" o (loadY o)
  | adc (o) : ReadRuns "ADC" o (addToA o)
  | sbc (o) : ReadRuns "SBC" o (subFromA o)
  | cmp (o) : ReadRuns "CMP" o fun s => compareWith s.a o s
  | cpx (o) : ReadRuns "CPX" o fun s => compareWith s.x o s
  | cpy (o) : ReadRuns "CPY" o fun s => compareWith s.y o s
  | and (o) : ReadRuns "AND" o (logicA (· &&& ·) o)
  | ora (o) : ReadRuns "ORA" o (logicA (· ||| ·) o)
  | eor (o) : ReadRuns "EOR" o (logicA (· ^^^ ·) o)
  | bit (o) : ReadRuns "BIT" o (bitTest o)
  | lax (o) : ReadRuns "LAX" o (loadAX o)
  | las (o) : ReadRuns "LAS" o (loadAXS o)
  | nop (o) : ReadRuns "NOP" o (readAndDiscard o)
  | anc (n) : ReadRuns "ANC" (.imm n) (andCarry n)
  | alr (n) : ReadRuns "ALR" (.imm n) (andShiftRight n)
  | arr (n) : ReadRuns "ARR" (.imm n) (andRotateRight n)
  | axs (n) : ReadRuns "AXS" (.imm n) (subtractIntoX n)

/-- The stores: mnemonic, mode, meaning. -/
inductive StoreRuns : String → Mode → (State → State) → Prop
  | sta (m) : StoreRuns "STA" m fun s => storeByte m s.a s
  | stx (m) : StoreRuns "STX" m fun s => storeByte m s.x s
  | sty (m) : StoreRuns "STY" m fun s => storeByte m s.y s
  | sax (m) : StoreRuns "SAX" m fun s => storeByte m (s.a &&& s.x) s

/-- The read-modify-write instructions on memory: mnemonic, mode, meaning. -/
inductive ModifyRuns : String → Mode → (State → State) → Prop
  | inc (m) : ModifyRuns "INC" m (modifyByte m incValue incFlags)
  | dec (m) : ModifyRuns "DEC" m (modifyByte m decValue decFlags)
  | asl (m) : ModifyRuns "ASL" m (modifyByte m aslValue aslFlags)
  | lsr (m) : ModifyRuns "LSR" m (modifyByte m lsrValue lsrFlags)
  | rol (m) : ModifyRuns "ROL" m (modifyByte m rolValue rolFlags)
  | ror (m) : ModifyRuns "ROR" m (modifyByte m rorValue rorFlags)
  | slo (m) : ModifyRuns "SLO" m (shiftLeftOr m)
  | rla (m) : ModifyRuns "RLA" m (rotateLeftAnd m)
  | sre (m) : ModifyRuns "SRE" m (shiftRightEor m)
  | rra (m) : ModifyRuns "RRA" m (rotateRightAdd m)
  | dcp (m) : ModifyRuns "DCP" m (decrementCompare m)
  | isc (m) : ModifyRuns "ISC" m (incrementSubtract m)

/-- The one-byte instructions on registers and flags, but CLI and SEI: mnemonic and meaning. -/
inductive ImpliedRuns : String → (State → State) → Prop
  | tax : ImpliedRuns "TAX" fun s => { s.idle with x := s.a, p := s.p.setZN s.a }.retire 1
  | tay : ImpliedRuns "TAY" fun s => { s.idle with y := s.a, p := s.p.setZN s.a }.retire 1
  | txa : ImpliedRuns "TXA" fun s => { s.idle with a := s.x, p := s.p.setZN s.x }.retire 1
  | tya : ImpliedRuns "TYA" fun s => { s.idle with a := s.y, p := s.p.setZN s.y }.retire 1
  | tsx : ImpliedRuns "TSX" fun s => { s.idle with x := s.sp, p := s.p.setZN s.sp }.retire 1
  | txs : ImpliedRuns "TXS" fun s => { s.idle with sp := s.x }.retire 1
  | inx : ImpliedRuns "INX" fun s => { s.idle with x := s.x + 1, p := s.p.setZN (s.x + 1) }.retire 1
  | iny : ImpliedRuns "INY" fun s => { s.idle with y := s.y + 1, p := s.p.setZN (s.y + 1) }.retire 1
  | dex : ImpliedRuns "DEX" fun s => { s.idle with x := s.x - 1, p := s.p.setZN (s.x - 1) }.retire 1
  | dey : ImpliedRuns "DEY" fun s => { s.idle with y := s.y - 1, p := s.p.setZN (s.y - 1) }.retire 1
  | asl : ImpliedRuns "ASL" (shiftA aslValue aslFlags)
  | lsr : ImpliedRuns "LSR" (shiftA lsrValue lsrFlags)
  | rol : ImpliedRuns "ROL" (shiftA rolValue rolFlags)
  | ror : ImpliedRuns "ROR" (shiftA rorValue rorFlags)
  | clc : ImpliedRuns "CLC" fun s => { s.idle with p := { s.p with c := false } }.retire 1
  | sec : ImpliedRuns "SEC" fun s => { s.idle with p := { s.p with c := true } }.retire 1
  | cld : ImpliedRuns "CLD" fun s => { s.idle with p := { s.p with d := false } }.retire 1
  | sed : ImpliedRuns "SED" fun s => { s.idle with p := { s.p with d := true } }.retire 1
  | clv : ImpliedRuns "CLV" fun s => { s.idle with p := { s.p with v := false } }.retire 1
  | nop : ImpliedRuns "NOP" fun s => s.idle.retire 1

/-- The branches: mnemonic and condition. -/
inductive BranchOn : String → (Flags → Bool) → Prop
  | bpl : BranchOn "BPL" fun p => !p.n
  | bmi : BranchOn "BMI" fun p => p.n
  | bvc : BranchOn "BVC" fun p => !p.v
  | bvs : BranchOn "BVS" fun p => p.v
  | bcc : BranchOn "BCC" fun p => !p.c
  | bcs : BranchOn "BCS" fun p => p.c
  | bne : BranchOn "BNE" fun p => !p.z
  | beq : BranchOn "BEQ" fun p => p.z

/-- The unstable stores that write no register (R268 to R270). -/
inductive UnstableStore : String → Prop
  | sha : UnstableStore "SHA"
  | shx : UnstableStore "SHX"
  | shy : UnstableStore "SHY"

/-- Every instruction: meaning, mnemonic, bytes that the fetch reads, cycles with the fetch (R371). -/
inductive Runs : (State → State) → String → Nat → (State → Nat) → Prop
  | read {mnemonic o run} (h : ReadRuns mnemonic o run) :
      Runs run mnemonic (o.bytes.length + 1) fun s => s.operandCycles o
  | store {mnemonic m run} (h : StoreRuns mnemonic m run) :
      Runs run mnemonic (m.bytes.length + 1) fun _ => m.storeCycles
  | modify {mnemonic m run} (h : ModifyRuns mnemonic m run) :
      Runs run mnemonic (m.bytes.length + 1) fun _ => m.storeCycles + 2
  | implied {mnemonic run} (h : ImpliedRuns mnemonic run) : Runs run mnemonic 1 fun _ => 2
  | branch {mnemonic taken} (h : BranchOn mnemonic taken) (r : Byte) :
      Runs (fun s => branchIf (taken s.p) r s) mnemonic 2 fun s => branchCycles (taken s.p) r s.pc
  | jmpAbs (w) : Runs (fun s => s.retireAt w) "JMP" 3 fun _ => 3
  | jmpInd (w) : Runs (jumpIndirect w) "JMP" 3 fun _ => 5
  | jsr (w) : Runs (callSubroutine w) "JSR" 2 fun _ => 6
  | rts : Runs returnFromSubroutine "RTS" 1 fun _ => 6
  | brk : Runs breakInterrupt "BRK" 1 fun _ => 7
  | rti : Runs (fun s => s.idle.stackIdle.returnFromInterrupt) "RTI" 1 fun _ => 6
  | cli : Runs (setInterruptDisable false) "CLI" 1 fun _ => 2
  | sei : Runs (setInterruptDisable true) "SEI" 1 fun _ => 2
  | pha : Runs (fun s => (s.idle.push s.a).retire 1) "PHA" 1 fun _ => 3
  | php : Runs (fun s => (s.idle.push (s.p.pack true)).retire 1) "PHP" 1 fun _ => 3
  | pla : Runs pullA "PLA" 1 fun _ => 4
  | plp : Runs pullFlags "PLP" 1 fun _ => 4
  | ane (n) : Runs (unstableA n) "ANE" 2 fun _ => 2
  | lxa (n) : Runs (unstableAX n) "LXA" 2 fun _ => 2
  | unstable {mnemonic} (h : UnstableStore mnemonic) (m : Mode) :
      Runs (unstableStore m) mnemonic (m.bytes.length + 1) fun _ => m.storeCycles
  | tas (m : Mode) : Runs (unstableStackStore m) "TAS" (m.bytes.length + 1) fun _ => m.storeCycles
  | jam : Runs jam "JAM" 1 fun _ => 2

/-- Bytes that the fetch reads: all but JSR's last (R221, log 17). -/
def bytesFetched : Instr → Nat
  | .jsrAbs _ => 2
  | i => i.length

/-- Everything an instruction can do: it is one of the meanings, and it answers a next state (R300). -/
theorem exec_runs : (i : Instr) →
    ∃ run, (∀ s, exec i s = .next (run s)) ∧ Runs run i.mnemonic (bytesFetched i) (cycles i)
  | .oraIzx _ | .oraZp _ | .oraImm _ | .oraAbs _ | .oraIzy _ | .oraZpx _ | .oraAby _ | .oraAbx _ =>
    ⟨_, fun _ => rfl, .read (.ora _)⟩
  | .sloIzx _ | .sloZp _ | .sloAbs _ | .sloIzy _ | .sloZpx _ | .sloAby _ | .sloAbx _ =>
    ⟨_, fun _ => rfl, .modify (.slo _)⟩
  | .nopZp04 _ | .nopAbs _ | .nopZpx14 _ | .nopAbx1C _ | .nopZpx34 _ | .nopAbx3C _ | .nopZp44 _ | .nopZpx54 _
  | .nopAbx5C _ | .nopZp64 _ | .nopZpx74 _ | .nopAbx7C _ | .nopImm80 _ | .nopImm82 _ | .nopImm89 _ | .nopImmC2 _
  | .nopZpxD4 _ | .nopAbxDC _ | .nopImmE2 _ | .nopZpxF4 _ | .nopAbxFC _ => ⟨_, fun _ => rfl, .read (.nop _)⟩
  | .aslZp _ | .aslAbs _ | .aslZpx _ | .aslAbx _ => ⟨_, fun _ => rfl, .modify (.asl _)⟩
  | .ancImm0B _ | .ancImm2B _ => ⟨_, fun _ => rfl, .read (.anc _)⟩
  | .bplRel _ => ⟨_, fun _ => rfl, .branch .bpl _⟩
  | .jsrAbs _ => ⟨_, fun _ => rfl, .jsr _⟩
  | .andIzx _ | .andZp _ | .andImm _ | .andAbs _ | .andIzy _ | .andZpx _ | .andAby _ | .andAbx _ =>
    ⟨_, fun _ => rfl, .read (.and _)⟩
  | .rlaIzx _ | .rlaZp _ | .rlaAbs _ | .rlaIzy _ | .rlaZpx _ | .rlaAby _ | .rlaAbx _ =>
    ⟨_, fun _ => rfl, .modify (.rla _)⟩
  | .bitZp _ | .bitAbs _ => ⟨_, fun _ => rfl, .read (.bit _)⟩
  | .rolZp _ | .rolAbs _ | .rolZpx _ | .rolAbx _ => ⟨_, fun _ => rfl, .modify (.rol _)⟩
  | .bmiRel _ => ⟨_, fun _ => rfl, .branch .bmi _⟩
  | .eorIzx _ | .eorZp _ | .eorImm _ | .eorAbs _ | .eorIzy _ | .eorZpx _ | .eorAby _ | .eorAbx _ =>
    ⟨_, fun _ => rfl, .read (.eor _)⟩
  | .sreIzx _ | .sreZp _ | .sreAbs _ | .sreIzy _ | .sreZpx _ | .sreAby _ | .sreAbx _ =>
    ⟨_, fun _ => rfl, .modify (.sre _)⟩
  | .lsrZp _ | .lsrAbs _ | .lsrZpx _ | .lsrAbx _ => ⟨_, fun _ => rfl, .modify (.lsr _)⟩
  | .alrImm _ => ⟨_, fun _ => rfl, .read (.alr _)⟩
  | .jmpAbs _ => ⟨_, fun _ => rfl, .jmpAbs _⟩
  | .bvcRel _ => ⟨_, fun _ => rfl, .branch .bvc _⟩
  | .adcIzx _ | .adcZp _ | .adcImm _ | .adcAbs _ | .adcIzy _ | .adcZpx _ | .adcAby _ | .adcAbx _ =>
    ⟨_, fun _ => rfl, .read (.adc _)⟩
  | .rraIzx _ | .rraZp _ | .rraAbs _ | .rraIzy _ | .rraZpx _ | .rraAby _ | .rraAbx _ =>
    ⟨_, fun _ => rfl, .modify (.rra _)⟩
  | .rorZp _ | .rorAbs _ | .rorZpx _ | .rorAbx _ => ⟨_, fun _ => rfl, .modify (.ror _)⟩
  | .arrImm _ => ⟨_, fun _ => rfl, .read (.arr _)⟩
  | .jmpInd _ => ⟨_, fun _ => rfl, .jmpInd _⟩
  | .bvsRel _ => ⟨_, fun _ => rfl, .branch .bvs _⟩
  | .staIzx _ | .staZp _ | .staAbs _ | .staIzy _ | .staZpx _ | .staAby _ | .staAbx _ =>
    ⟨_, fun _ => rfl, .store (.sta _)⟩
  | .saxIzx _ | .saxZp _ | .saxAbs _ | .saxZpy _ => ⟨_, fun _ => rfl, .store (.sax _)⟩
  | .styZp _ | .styAbs _ | .styZpx _ => ⟨_, fun _ => rfl, .store (.sty _)⟩
  | .stxZp _ | .stxAbs _ | .stxZpy _ => ⟨_, fun _ => rfl, .store (.stx _)⟩
  | .aneImm _ => ⟨_, fun _ => rfl, .ane _⟩
  | .bccRel _ => ⟨_, fun _ => rfl, .branch .bcc _⟩
  | .shaIzy _ | .shaAby _ => ⟨_, fun _ => rfl, .unstable .sha _⟩
  | .tasAby _ => ⟨_, fun _ => rfl, .tas _⟩
  | .shyAbx _ => ⟨_, fun _ => rfl, .unstable .shy _⟩
  | .shxAby _ => ⟨_, fun _ => rfl, .unstable .shx _⟩
  | .ldyImm _ | .ldyZp _ | .ldyAbs _ | .ldyZpx _ | .ldyAbx _ => ⟨_, fun _ => rfl, .read (.ldy _)⟩
  | .ldaIzx _ | .ldaZp _ | .ldaImm _ | .ldaAbs _ | .ldaIzy _ | .ldaZpx _ | .ldaAby _ | .ldaAbx _ =>
    ⟨_, fun _ => rfl, .read (.lda _)⟩
  | .ldxImm _ | .ldxZp _ | .ldxAbs _ | .ldxZpy _ | .ldxAby _ => ⟨_, fun _ => rfl, .read (.ldx _)⟩
  | .laxIzx _ | .laxZp _ | .laxAbs _ | .laxIzy _ | .laxZpy _ | .laxAby _ => ⟨_, fun _ => rfl, .read (.lax _)⟩
  | .lxaImm _ => ⟨_, fun _ => rfl, .lxa _⟩
  | .bcsRel _ => ⟨_, fun _ => rfl, .branch .bcs _⟩
  | .lasAby _ => ⟨_, fun _ => rfl, .read (.las _)⟩
  | .cpyImm _ | .cpyZp _ | .cpyAbs _ => ⟨_, fun _ => rfl, .read (.cpy _)⟩
  | .cmpIzx _ | .cmpZp _ | .cmpImm _ | .cmpAbs _ | .cmpIzy _ | .cmpZpx _ | .cmpAby _ | .cmpAbx _ =>
    ⟨_, fun _ => rfl, .read (.cmp _)⟩
  | .dcpIzx _ | .dcpZp _ | .dcpAbs _ | .dcpIzy _ | .dcpZpx _ | .dcpAby _ | .dcpAbx _ =>
    ⟨_, fun _ => rfl, .modify (.dcp _)⟩
  | .decZp _ | .decAbs _ | .decZpx _ | .decAbx _ => ⟨_, fun _ => rfl, .modify (.dec _)⟩
  | .axsImm _ => ⟨_, fun _ => rfl, .read (.axs _)⟩
  | .bneRel _ => ⟨_, fun _ => rfl, .branch .bne _⟩
  | .cpxImm _ | .cpxZp _ | .cpxAbs _ => ⟨_, fun _ => rfl, .read (.cpx _)⟩
  | .sbcIzx _ | .sbcZp _ | .sbcImm _ | .sbcImmEB _ | .sbcAbs _ | .sbcIzy _ | .sbcZpx _ | .sbcAby _ | .sbcAbx _ =>
    ⟨_, fun _ => rfl, .read (.sbc _)⟩
  | .iscIzx _ | .iscZp _ | .iscAbs _ | .iscIzy _ | .iscZpx _ | .iscAby _ | .iscAbx _ =>
    ⟨_, fun _ => rfl, .modify (.isc _)⟩
  | .incZp _ | .incAbs _ | .incZpx _ | .incAbx _ => ⟨_, fun _ => rfl, .modify (.inc _)⟩
  | .beqRel _ => ⟨_, fun _ => rfl, .branch .beq _⟩
  | .brk => ⟨_, fun _ => rfl, .brk⟩
  | .jam02 | .jam12 | .jam22 | .jam32 | .jam42 | .jam52 | .jam62 | .jam72 | .jam92 | .jamB2 | .jamD2 | .jamF2 =>
    ⟨_, fun _ => rfl, .jam⟩
  | .php => ⟨_, fun _ => rfl, .php⟩
  | .aslAcc => ⟨_, fun _ => rfl, .implied .asl⟩
  | .clc => ⟨_, fun _ => rfl, .implied .clc⟩
  | .nop1A | .nop3A | .nop5A | .nop7A | .nopDA | .nop | .nopFA => ⟨_, fun _ => rfl, .implied .nop⟩
  | .plp => ⟨_, fun _ => rfl, .plp⟩
  | .rolAcc => ⟨_, fun _ => rfl, .implied .rol⟩
  | .sec => ⟨_, fun _ => rfl, .implied .sec⟩
  | .rti => ⟨_, fun _ => rfl, .rti⟩
  | .pha => ⟨_, fun _ => rfl, .pha⟩
  | .lsrAcc => ⟨_, fun _ => rfl, .implied .lsr⟩
  | .cli => ⟨_, fun _ => rfl, .cli⟩
  | .rts => ⟨_, fun _ => rfl, .rts⟩
  | .pla => ⟨_, fun _ => rfl, .pla⟩
  | .rorAcc => ⟨_, fun _ => rfl, .implied .ror⟩
  | .sei => ⟨_, fun _ => rfl, .sei⟩
  | .dey => ⟨_, fun _ => rfl, .implied .dey⟩
  | .txa => ⟨_, fun _ => rfl, .implied .txa⟩
  | .tya => ⟨_, fun _ => rfl, .implied .tya⟩
  | .txs => ⟨_, fun _ => rfl, .implied .txs⟩
  | .tay => ⟨_, fun _ => rfl, .implied .tay⟩
  | .tax => ⟨_, fun _ => rfl, .implied .tax⟩
  | .clv => ⟨_, fun _ => rfl, .implied .clv⟩
  | .tsx => ⟨_, fun _ => rfl, .implied .tsx⟩
  | .iny => ⟨_, fun _ => rfl, .implied .iny⟩
  | .dex => ⟨_, fun _ => rfl, .implied .dex⟩
  | .cld => ⟨_, fun _ => rfl, .implied .cld⟩
  | .inx => ⟨_, fun _ => rfl, .implied .inx⟩
  | .sed => ⟨_, fun _ => rfl, .implied .sed⟩

end Sys2Proof.Machine
end

section
/-! SUPPORT. The classes of meanings in one form: read or write cycles, then `State.retireWith`; and what each class leaves of
memory, devices and pins. -/

namespace Sys2Proof.Machine

/-! ## Each meaning as its cycles and new registers -/

theorem readAndDiscard_eq (o : Operand) (s : State) :
    readAndDiscard o s = (s.operandRead o).retireWith o.length s.a s.x s.y s.sp s.p := by
  simp [readAndDiscard, State.retireWith, State.retire]

theorem andCarry_eq (n : Byte) (s : State) : andCarry n s = (s.operandRead (.imm n)).retireWith 2 (s.a &&& n) s.x s.y s.sp
    { s.p.setZN (s.a &&& n) with c := (s.a &&& n).getLsbD 7 } := rfl

theorem andShiftRight_eq (n : Byte) (s : State) : andShiftRight n s = (s.operandRead (.imm n)).retireWith 2
    (lsrValue (s.a &&& n) s.p) s.x s.y s.sp (lsrFlags (s.a &&& n) s.p) := rfl

theorem andRotateRight_eq (n : Byte) (s : State) : andRotateRight n s = (s.operandRead (.imm n)).retireWith 2
    (arrResult s.a n s.p) s.x s.y s.sp (arrFlags s.a n s.p) := rfl

theorem subtractIntoX_eq (n : Byte) (s : State) : subtractIntoX n s = (s.operandRead (.imm n)).retireWith 2
    s.a ((s.a &&& s.x) - n) s.y s.sp (compareFlags (s.a &&& s.x) n s.p) := rfl

theorem storeByte_eq (m : Mode) (v : Byte) (s : State) :
    storeByte m v s = (s.stored m v).retireWith m.length s.a s.x s.y s.sp s.p := by
  simp [storeByte, State.retireWith, State.retire]

theorem modifyByte_eq (m : Mode) (value : Byte → Flags → Byte) (flags : Byte → Flags → Flags) (s : State) :
    modifyByte m value flags s = (s.modified m (value (s.modifyOld m) s.p)).retireWith m.length
      s.a s.x s.y s.sp (flags (s.modifyOld m) s.p) := by
  simp [modifyByte, State.retireWith]

theorem shiftLeftOr_eq (m : Mode) (s : State) : shiftLeftOr m s =
    (s.modified m (aslValue (s.modifyOld m) s.p)).retireWith m.length (s.a ||| aslValue (s.modifyOld m) s.p) s.x s.y s.sp
      ((aslFlags (s.modifyOld m) s.p).setZN (s.a ||| aslValue (s.modifyOld m) s.p)) := by
  simp [shiftLeftOr, State.retireWith]

theorem rotateLeftAnd_eq (m : Mode) (s : State) : rotateLeftAnd m s =
    (s.modified m (rolValue (s.modifyOld m) s.p)).retireWith m.length (s.a &&& rolValue (s.modifyOld m) s.p) s.x s.y s.sp
      ((rolFlags (s.modifyOld m) s.p).setZN (s.a &&& rolValue (s.modifyOld m) s.p)) := by
  simp [rotateLeftAnd, State.retireWith]

theorem shiftRightEor_eq (m : Mode) (s : State) : shiftRightEor m s =
    (s.modified m (lsrValue (s.modifyOld m) s.p)).retireWith m.length (s.a ^^^ lsrValue (s.modifyOld m) s.p) s.x s.y s.sp
      ((lsrFlags (s.modifyOld m) s.p).setZN (s.a ^^^ lsrValue (s.modifyOld m) s.p)) := by
  simp [shiftRightEor, State.retireWith]

theorem rotateRightAdd_eq (m : Mode) (s : State) : rotateRightAdd m s =
    (s.modified m (rorValue (s.modifyOld m) s.p)).retireWith m.length
      (addResult s.a (rorValue (s.modifyOld m) s.p) (rorFlags (s.modifyOld m) s.p).c) s.x s.y s.sp
      (addFlags s.a (rorValue (s.modifyOld m) s.p) (rorFlags (s.modifyOld m) s.p)) := by
  simp [rotateRightAdd, State.retireWith]

theorem decrementCompare_eq (m : Mode) (s : State) : decrementCompare m s =
    (s.modified m (decValue (s.modifyOld m) s.p)).retireWith m.length s.a s.x s.y s.sp
      (compareFlags s.a (decValue (s.modifyOld m) s.p) s.p) := by
  simp [decrementCompare, State.retireWith]

theorem incrementSubtract_eq (m : Mode) (s : State) : incrementSubtract m s =
    (s.modified m (incValue (s.modifyOld m) s.p)).retireWith m.length
      (subResult s.a (incValue (s.modifyOld m) s.p) s.p.c) s.x s.y s.sp
      (subFlags s.a (incValue (s.modifyOld m) s.p) s.p) := by
  simp [incrementSubtract, State.retireWith]

theorem shiftA_eq (value : Byte → Flags → Byte) (flags : Byte → Flags → Flags) (s : State) :
    shiftA value flags s = s.idle.retireWith 1 (value s.a s.p) s.x s.y s.sp (flags s.a s.p) := rfl

theorem pullA_eq (s : State) : pullA s = s.idle.stackIdle.pulled.retireWith 1 s.idle.stackIdle.pullValue s.x s.y
    (s.sp + 1) (s.p.setZN s.idle.stackIdle.pullValue) := by
  simp only [pullA, State.retireWith, pulled_x, pulled_y, pulled_sp]
  rfl

theorem unstableA_eq (n : Byte) (s : State) :
    unstableA n s = s.drawn.retireWith 2 s.drawValue s.x s.y s.sp (s.p.setZN s.drawValue) := rfl

theorem unstableAX_eq (n : Byte) (s : State) :
    unstableAX n s = s.drawn.retireWith 2 s.drawValue s.drawValue s.y s.sp (s.p.setZN s.drawValue) := rfl

/-! ## The classes -/

/-- Everything an instruction that reads its operand can do. -/
theorem ReadRuns.exists_eq {mnemonic : String} {o : Operand} {run : State → State} (h : ReadRuns mnemonic o run)
    (s : State) : ∃ a x y sp p, run s = (s.operandRead o).retireWith o.length a x y sp p := by
  cases h with
  | lda => exact ⟨_, _, _, _, _, loadA_eq o s⟩
  | ldx => exact ⟨_, _, _, _, _, loadX_eq o s⟩
  | ldy => exact ⟨_, _, _, _, _, loadY_eq o s⟩
  | adc => exact ⟨_, _, _, _, _, addToA_eq o s⟩
  | sbc => exact ⟨_, _, _, _, _, subFromA_eq o s⟩
  | cmp => exact ⟨_, _, _, _, _, compareWith_eq s.a o s⟩
  | cpx => exact ⟨_, _, _, _, _, compareWith_eq s.x o s⟩
  | cpy => exact ⟨_, _, _, _, _, compareWith_eq s.y o s⟩
  | and | ora | eor => exact ⟨_, _, _, _, _, logicA_eq _ o s⟩
  | bit => exact ⟨_, _, _, _, _, bitTest_eq o s⟩
  | lax => exact ⟨_, _, _, _, _, loadAX_eq o s⟩
  | las => exact ⟨_, _, _, _, _, loadAXS_eq o s⟩
  | nop => exact ⟨_, _, _, _, _, readAndDiscard_eq o s⟩
  | anc n => exact ⟨_, _, _, _, _, andCarry_eq n s⟩
  | alr n => exact ⟨_, _, _, _, _, andShiftRight_eq n s⟩
  | arr n => exact ⟨_, _, _, _, _, andRotateRight_eq n s⟩
  | axs n => exact ⟨_, _, _, _, _, subtractIntoX_eq n s⟩

/-- Everything a store can do. -/
theorem StoreRuns.exists_eq {mnemonic : String} {m : Mode} {run : State → State} (h : StoreRuns mnemonic m run)
    (s : State) : ∃ v, run s = (s.stored m v).retireWith m.length s.a s.x s.y s.sp s.p := by
  cases h <;> exact ⟨_, storeByte_eq m _ s⟩

/-- Everything a read-modify-write on memory can do. -/
theorem ModifyRuns.exists_eq {mnemonic : String} {m : Mode} {run : State → State} (h : ModifyRuns mnemonic m run)
    (s : State) : ∃ v a p, run s = (s.modified m v).retireWith m.length a s.x s.y s.sp p := by
  cases h with
  | inc | dec | asl | lsr | rol | ror => exact ⟨_, _, _, modifyByte_eq m _ _ s⟩
  | slo => exact ⟨_, _, _, shiftLeftOr_eq m s⟩
  | rla => exact ⟨_, _, _, rotateLeftAnd_eq m s⟩
  | sre => exact ⟨_, _, _, shiftRightEor_eq m s⟩
  | rra => exact ⟨_, _, _, rotateRightAdd_eq m s⟩
  | dcp => exact ⟨_, _, _, decrementCompare_eq m s⟩
  | isc => exact ⟨_, _, _, incrementSubtract_eq m s⟩

/-- Everything a one-byte instruction on registers and flags can do. -/
theorem ImpliedRuns.exists_eq {mnemonic : String} {run : State → State} (h : ImpliedRuns mnemonic run) (s : State) :
    ∃ a x y sp p, run s = s.idle.retireWith 1 a x y sp p := by
  cases h <;> exact ⟨_, _, _, _, _, rfl⟩

/-- Everything the store of SHA, SHX and SHY can do: the mode's reads and one write. -/
theorem unstableStore_exists_eq (m : Mode) (s : State) : ∃ w v i d, (s.pageCross m = false → w = s.ea m) ∧
    loByte w = loByte (s.ea m) ∧ unstableStore m s =
      { (s.addressed m .write).writeCycle w v with inputs := i, draws := d }.retireWith m.length
        s.a s.x s.y s.sp s.p := by
  obtain ⟨w, v, i, d, hea, hlo, hstored⟩ := unstableStored_eq s m
  refine ⟨w, v, i, d, hea, hlo, ?_⟩
  rw [unstableStore, hstored, addressed_eq]
  rfl

end Sys2Proof.Machine
end

section
/-! SUPPORT. What each instruction leaves of memory, devices and pins, and the invariant under a step (R62, R69, R71). -/

namespace Sys2Proof.Machine

/-! ## Pins and cartridge -/

theorem retireWith_samePins {s u : State} {len : Word} {a x y sp : Byte} {p : Flags} (h : SamePins s u) :
    SamePins s (u.retireWith len a x y sp p) := { h with }

theorem stored_samePins (s : State) (m : Mode) (v : Byte) : SamePins s (s.stored m v) := by constructor <;> simp

theorem modified_samePins (s : State) (m : Mode) (v : Byte) : SamePins s (s.modified m v) := by constructor <;> simp

/-- The mnemonics that write memory: the stores, the read-modify-writes, the pushes, JSR and BRK (R71, R75, R118). -/
def memoryWriters : List String :=
  ["STA", "STX", "STY", "SAX", "INC", "DEC", "ASL", "LSR", "ROL", "ROR", "PHA", "PHP", "JSR", "BRK", "SLO", "RLA", "SRE",
   "RRA", "DCP", "ISC", "SHA", "SHX", "SHY", "TAS"]

/-- What an instruction leaves outside the registers, by its mnemonic. -/
def LeavesOutside (mnemonic : String) (s t : State) : Prop :=
  (mnemonic ∉ memoryWriters → SameMemory s t ∧ t.apu = s.apu ∧ t.outLatch = s.outLatch) ∧
  t.cart = s.cart ∧ t.irqLine = s.irqLine ∧ t.nmiLine = s.nmiLine ∧ t.rstLine = s.rstLine ∧
  t.nmiMid = s.nmiMid ∧ t.rstMid = s.rstMid ∧ t.resetPending = s.resetPending ∧ t.schedule = s.schedule ∧
  (mnemonic ≠ "BRK" → t.nmiPending = s.nmiPending) ∧ (mnemonic ≠ "JAM" → t.jammed = s.jammed)

theorem NoStore.leavesOutside {mnemonic : String} {s t : State} (h : NoStore s t) : LeavesOutside mnemonic s t :=
  ⟨fun _ => ⟨h.memory, h.devices.apu, h.devices.outLatch⟩, h.devices.cart, h.pins.irqLine, h.pins.nmiLine,
    h.pins.rstLine, h.pins.nmiMid, h.pins.rstMid, h.pins.resetPending, h.pins.schedule, fun _ => h.pins.nmiPending,
    fun _ => h.pins.jammed⟩

/-- Of an instruction that writes memory only the pins and the cartridge are said to stay. -/
theorem SamePins.leavesOutside {mnemonic : String} {s t : State} (h : SamePins s t) (hcart : t.cart = s.cart)
    (hwriter : mnemonic ∈ memoryWriters) : LeavesOutside mnemonic s t :=
  ⟨fun hnot => absurd hwriter hnot, hcart, h.irqLine, h.nmiLine, h.rstLine, h.nmiMid, h.rstMid, h.resetPending,
    h.schedule, fun _ => h.nmiPending, fun _ => h.jammed⟩

theorem StoreRuns.mem_memoryWriters {mnemonic : String} {m : Mode} {run : State → State}
    (h : StoreRuns mnemonic m run) : mnemonic ∈ memoryWriters := by cases h <;> decide

theorem ModifyRuns.mem_memoryWriters {mnemonic : String} {m : Mode} {run : State → State}
    (h : ModifyRuns mnemonic m run) : mnemonic ∈ memoryWriters := by cases h <;> decide

theorem UnstableStore.mem_memoryWriters {mnemonic : String} (h : UnstableStore mnemonic) :
    mnemonic ∈ memoryWriters := by cases h <;> decide

theorem drawn_noStore (s : State) : NoStore s s.drawn where
  memory := drawn_byteAt s
  devices := ⟨rfl, rfl, rfl⟩
  pins := ⟨rfl, rfl, rfl, rfl, rfl, rfl, rfl, rfl, rfl⟩

theorem pull_noStore (s : State) : NoStore s s.idle.stackIdle.pulled where
  memory := fun a => by simp
  devices := by constructor <;> simp
  pins := by constructor <;> simp

theorem jumpAfter_noStore (s : State) (as : List Word) (sp : Byte) (target : Word) :
    NoStore s (s.jumpAfter as sp target) :=
  have ⟨_, _, _, hnoStore, _⟩ := jumpAfter_frame s as sp target
  hnoStore

theorem pullFlags_noStore (s : State) : NoStore s (pullFlags s) where
  memory := (pull_noStore s).memory
  devices := { (pull_noStore s).devices with }
  pins := { (pull_noStore s).pins with }

theorem setInterruptDisable_noStore (b : Bool) (s : State) : NoStore s (setInterruptDisable b s) where
  memory := (idle_noStore s).memory
  devices := { (idle_noStore s).devices with }
  pins := { (idle_noStore s).pins with }

theorem returnFromInterrupt_noStore (s : State) : NoStore s s.idle.stackIdle.returnFromInterrupt where
  memory := byteAt_congr (by simp [State.returnFromInterrupt]) (by simp [State.returnFromInterrupt])
  devices := by constructor <;> simp [State.returnFromInterrupt]
  pins := by constructor <;> simp [State.returnFromInterrupt]

theorem unstableStore_samePins (m : Mode) (s : State) :
    SamePins s (unstableStore m s) ∧ (unstableStore m s).cart = s.cart := by
  obtain ⟨w, v, i, d, _, _, heq⟩ := unstableStore_exists_eq m s
  rw [heq, addressed_eq]
  exact ⟨⟨rfl, rfl, rfl, rfl, rfl, rfl, rfl, rfl, rfl⟩, rfl⟩

/-- TAS is the store of SHA after a draw, which goes to S (R271). -/
theorem unstableStackStore_eq (m : Mode) (s : State) :
    unstableStackStore m s = { unstableStore m s.drawn with sp := s.drawValue } := rfl

/-- What every instruction leaves outside the registers. -/
theorem Runs.leavesOutside {run : State → State} {mnemonic : String} {n : Nat} {c : State → Nat}
    (h : Runs run mnemonic n c) (s : State) : LeavesOutside mnemonic s (run s) := by
  cases h with
  | read h =>
    obtain ⟨a, x, y, sp, p, heq⟩ := h.exists_eq s
    rw [heq]
    exact (retireWith_noStore (operandRead_noStore _ s)).leavesOutside
  | implied h =>
    obtain ⟨a, x, y, sp, p, heq⟩ := h.exists_eq s
    rw [heq]
    exact (retireWith_noStore (idle_noStore s)).leavesOutside
  | store h =>
    obtain ⟨v, heq⟩ := h.exists_eq s
    rw [heq]
    exact (retireWith_samePins (stored_samePins s _ v)).leavesOutside (stored_cart s _ v) h.mem_memoryWriters
  | modify h =>
    obtain ⟨v, a, p, heq⟩ := h.exists_eq s
    rw [heq]
    exact (retireWith_samePins (modified_samePins s _ v)).leavesOutside (modified_cart s _ v) h.mem_memoryWriters
  | branch _ r => simp only [branchIf_eq_jumpAfter]; exact (jumpAfter_noStore ..).leavesOutside
  | jmpAbs w => exact (jumpAfter_noStore s [] s.sp w).leavesOutside
  | jmpInd w => exact (jumpAfter_noStore s [w, pointerHigh w] s.sp _).leavesOutside
  | rts => rw [returnFromSubroutine_eq_jumpAfter]; exact (jumpAfter_noStore ..).leavesOutside
  | rti => exact (returnFromInterrupt_noStore s).leavesOutside
  | cli | sei => exact (setInterruptDisable_noStore _ s).leavesOutside
  | pla => rw [pullA_eq]; exact (retireWith_noStore (pull_noStore s)).leavesOutside
  | plp => exact (pullFlags_noStore s).leavesOutside
  | ane n => rw [unstableA_eq]; exact (retireWith_noStore (drawn_noStore s)).leavesOutside
  | lxa n => rw [unstableAX_eq]; exact (retireWith_noStore (drawn_noStore s)).leavesOutside
  | pha | php => exact (idle_push_pushedByte s _ 1).pins.leavesOutside rfl (by decide)
  | jsr w =>
    obtain ⟨_, _, hexec, _, _, _, _, _, _, _, hdevices, hpins, _⟩ := jumpToSubroutine w s
    obtain rfl := Host.Outcome.next.inj hexec
    exact hpins.leavesOutside hdevices.cart (by decide)
  | unstable h m =>
    obtain ⟨hpins, hcart⟩ := unstableStore_samePins m s
    exact hpins.leavesOutside hcart h.mem_memoryWriters
  | tas m =>
    obtain ⟨hpins, hcart⟩ := unstableStore_samePins m s.drawn
    exact { hpins with : SamePins s (unstableStackStore m s) }.leavesOutside hcart (by decide)
  | brk =>
    exact ⟨fun h => absurd (by decide) h, by simp [breakInterrupt], by simp [breakInterrupt], by simp [breakInterrupt],
      by simp [breakInterrupt], by simp [breakInterrupt], by simp [breakInterrupt], by simp [breakInterrupt],
      by simp [breakInterrupt], fun h => absurd rfl h, fun _ => by simp [breakInterrupt]⟩
  | jam =>
    exact ⟨fun _ => ⟨idle_byteAt s, rfl, rfl⟩, rfl, rfl, rfl, rfl, rfl, rfl, rfl, rfl, fun _ => rfl, fun h => absurd rfl h⟩

/-- Settles O13: every instruction is one of the meanings, and each leaves what `LeavesOutside` says. -/
theorem onlyStoresChangeMemoryAndDevices : Obligations.OnlyStoresChangeMemoryAndDevices := by
  intro i s t hexec
  obtain ⟨run, hrun, hruns⟩ := exec_runs i
  obtain rfl : run s = t := Host.Outcome.next.inj ((hrun s).symm.trans hexec)
  exact hruns.leavesOutside s

end Sys2Proof.Machine
end

section
/-! SUPPORT. The invariant and the ROM under a step (R62, R69, R71, R331), and the encoding (R100 to R102, R119, R122). -/

namespace Sys2Proof.Machine

/-! ## The invariant -/

theorem branchIf_mem (taken : Bool) (r : Byte) (s : State) : (branchIf taken r s).mem = s.mem := by rw [branchIf_eq]

/-- Every instruction keeps the invariant: it stores by write cycles only. -/
theorem Runs.inv {run : State → State} {mnemonic : String} {n : Nat} {c : State → Nat} (h : Runs run mnemonic n c)
    {s : State} (hs : s.Inv) : (run s).Inv := by
  have hcart : (run s).cart = s.cart := (h.leavesOutside s).2.1
  have hidle : s.idle.Inv := inv_congr (s := s) rfl rfl hs
  cases h with
  | read h =>
    obtain ⟨a, x, y, sp, p, heq⟩ := h.exists_eq s
    exact inv_congr (by rw [heq]; exact operandRead_mem s _) hcart hs
  | implied h =>
    obtain ⟨a, x, y, sp, p, heq⟩ := h.exists_eq s
    exact inv_congr (by rw [heq]; rfl) hcart hs
  | store h =>
    obtain ⟨v, heq⟩ := h.exists_eq s
    rw [heq]
    exact inv_congr (s := s.stored _ v) rfl rfl (stored_inv hs _ v)
  | modify h =>
    obtain ⟨v, a, p, heq⟩ := h.exists_eq s
    rw [heq]
    exact inv_congr (s := s.modified _ v) rfl rfl (modified_inv hs _ v)
  | branch _ r => exact inv_congr (s := s) (branchIf_mem ..) hcart hs
  | jmpAbs w => exact inv_congr (s := s) rfl hcart hs
  | jmpInd w => exact inv_congr (s := s) rfl hcart hs
  | rts => exact inv_congr (by simp [returnFromSubroutine]) hcart hs
  | rti => exact inv_congr (by simp [State.returnFromInterrupt]) hcart hs
  | cli | sei => exact inv_congr (s := s) rfl hcart hs
  | pla => exact inv_congr (by simp [pullA]) hcart hs
  | plp => exact inv_congr (by simp [pullFlags]) hcart hs
  | ane n => exact inv_congr (s := s) rfl hcart hs
  | lxa n => exact inv_congr (s := s) rfl hcart hs
  | jam => exact inv_congr (s := s) rfl hcart hs
  | pha | php => exact inv_congr (s := s.idle.push _) rfl rfl (push_inv hidle _)
  | jsr w =>
    have hstack : s.stackIdle.Inv := inv_congr (s := s) rfl rfl hs
    exact inv_congr (s := s.returnPushed) rfl rfl (push_inv (push_inv hstack _) _)
  | brk => exact enter_inv hidle _ _ _
  | unstable _ m => exact unstableStore_inv hs m
  | tas m =>
    have hdrawn : s.drawn.Inv := inv_congr (s := s) rfl rfl hs
    exact inv_congr (s := unstableStore m s.drawn) rfl rfl (unstableStore_inv hdrawn m)
where
  unstableStore_inv {s : State} (hs : s.Inv) (m : Mode) : (unstableStore m s).Inv := by
    obtain ⟨w, v, i, d, _, _, heq⟩ := unstableStore_exists_eq m s
    have haddressed : (s.addressed m .write).Inv := inv_congr (addressed_mem s m .write) (addressed_cart s m .write) hs
    rw [heq]
    exact inv_congr (s := (s.addressed m .write).writeCycle w v) rfl rfl (writeCycle_inv haddressed w v)

theorem interrupt_inv {s : State} (hs : s.Inv) (v : Word) : (s.interrupt v).Inv :=
  enter_inv (s := (s.readCycle s.pc).readCycle s.pc) (inv_congr (s := s) rfl rfl hs) s.pc false v

theorem boundary_inv {s t : State} (hs : s.Inv) (h : s.boundary = .next t) : t.Inv := by
  have hlatched : s.latchNmi.Inv := inv_congr (s := s) rfl rfl hs
  rcases boundary_cases h with rfl | rfl | ⟨v, rfl⟩ | hexec
  · exact hlatched
  · exact inv_congr (resetSequence_mem s) (resetSequence_cart s) hs
  · exact interrupt_inv hlatched v
  · obtain ⟨run, hrun, hruns⟩ := exec_runs s.latchNmi.fetch.1
    obtain rfl := Host.Outcome.next.inj ((hrun _).symm.trans hexec)
    exact hruns.inv (inv_congr (fetch_mem _) (fetch_cart _) hlatched)

/-- Settles O3: by the cases of a step, each of which writes by write cycles only. -/
theorem stepKeepsInvariant : Obligations.StepKeepsInvariant := by
  intro s t hs hstep
  have henv : s.environment.Inv := inv_congr (environment_mem s) (environment_cart s) hs
  have huncut : State.Inv { s.environment with rstMid := none } := inv_congr (s := s.environment) rfl rfl henv
  rcases step_cases hstep with ⟨_, hboundary⟩ | ⟨k, u, _, hboundary, rfl⟩ | rfl
  · exact boundary_inv henv hboundary
  · exact cutAfter_inv huncut (boundary_inv huncut hboundary) k
  · exact inv_congr (s := s.environment) rfl rfl henv

/-! ## The ROM -/

theorem boundary_cart {s t : State} (h : s.boundary = .next t) : t.cart = s.cart := by
  rcases boundary_cases h with rfl | rfl | ⟨v, rfl⟩ | hexec
  · rfl
  · exact resetSequence_cart s
  · exact enter_cart ..
  · obtain ⟨run, hrun, hruns⟩ := exec_runs s.latchNmi.fetch.1
    obtain rfl := Host.Outcome.next.inj ((hrun _).symm.trans hexec)
    exact (hruns.leavesOutside _).2.1.trans (fetch_cart s.latchNmi)

theorem cutAfter_cart {s t : State} (h : t.cart = s.cart) (k : Nat) : (s.cutAfter k t).cart = s.cart := by
  rcases cutAfter_cases s k t with ⟨_, heq⟩ | ⟨_, heq⟩ <;> rw [heq]
  · exact h
  · rw [cycles_eq]

theorem step_cart {s t : State} (h : step s = .next t) : t.cart = s.cart := by
  rw [← environment_cart s]
  rcases step_cases h with ⟨_, hboundary⟩ | ⟨k, u, _, hboundary, rfl⟩ | rfl
  · exact boundary_cart hboundary
  · exact cutAfter_cart (boundary_cart hboundary) k
  · rfl

/-- Where no RAM answers, the cartridge alone says what a byte reads as. -/
theorem byteAt_of_not_ramAt {s t : State} {a : Word} (hcart : t.cart = s.cart) (hram : s.ramAt a = false) :
    t.byteAt a = s.byteAt a := by
  have htarget : t.target a = s.target a := by unfold State.target; rw [hcart]
  unfold State.ramAt at hram
  unfold State.byteAt State.romByte
  rw [htarget, hcart]
  cases h : s.target a with
  | ram c => rw [h] at hram; cases hram
  | rom c | ppu r | io r | testSpace | cartDevice | unmapped => rfl

/-- Settles O4: no step changes the cartridge, which holds the ROM. -/
theorem stepKeepsRom : Obligations.StepKeepsRom := fun _ _ hstep =>
  ⟨step_cart hstep, fun _ hram => byteAt_of_not_ramAt (step_cart hstep) hram⟩

end Sys2Proof.Machine
end

section
/-! SUPPORT. The encoding (R100 to R102, R119 to R122): the decoder undoes the encoder, every opcode byte decodes, and what
decodes encodes back. -/

namespace Sys2Proof

theorem decode_plain {op : Byte} {i : Instr} (h : opcodeShape op = .plain i) (rest : List Byte) :
    decode (op :: rest) = .ok (i, rest) := by simp only [decode, h]

theorem decode_byte {op : Byte} {f : Byte → Instr} (h : opcodeShape op = .byte f) (b : Byte) (rest : List Byte) :
    decode (op :: b :: rest) = .ok (f b, rest) := by simp only [decode, h]

theorem decode_word {op : Byte} {f : Word → Instr} (h : opcodeShape op = .word f) (l u : Byte) (rest : List Byte) :
    decode (op :: l :: u :: rest) = .ok (f (wordOf l u), rest) := by simp only [decode, h]

/-- Where the operand bytes are as many as the opcode's shape asks for, the decoder builds its instruction of them. -/
theorem decode_operands {op : Byte} {ops : List Byte} (h : ops.length = (opcodeShape op).operands) (rest : List Byte) :
    decode (op :: ops ++ rest) = .ok (instrOf op (ops.getD 0 0) (ops.getD 1 0), rest) := by
  unfold instrOf
  cases hshape : opcodeShape op with
  | plain i =>
    rw [hshape] at h
    obtain rfl := List.length_eq_zero_iff.1 h
    exact decode_plain hshape rest
  | byte f =>
    rw [hshape] at h
    obtain ⟨b, rfl⟩ := List.length_eq_one_iff.1 h
    exact decode_byte hshape b rest
  | word f =>
    rw [hshape] at h
    obtain ⟨l, u, rfl⟩ := List.length_eq_two.1 h
    exact decode_word hshape l u rest

theorem decode_encode_of_decodesBack {i : Instr} (h : Laws.DecodesBack.Statement i) (rest : List Byte) :
    decode (encode i ++ rest) = .ok (i, rest) := by
  obtain ⟨op, ops, hencode, hlength, hbuild⟩ := h
  rw [hencode, decode_operands hlength, hbuild]

open Laws.DecodesBack in
/-- Every instruction decodes back; the lemmas stand in the order of the constructors. -/
theorem decodesBack (i : Instr) : Laws.DecodesBack.Statement i :=
  i.rec oraIzx sloIzx nopZp04 oraZp aslZp sloZp oraImm ancImm0B nopAbs oraAbs aslAbs sloAbs bplRel oraIzy sloIzy
    nopZpx14 oraZpx aslZpx sloZpx oraAby sloAby nopAbx1C oraAbx aslAbx sloAbx jsrAbs andIzx rlaIzx bitZp andZp rolZp
    rlaZp andImm ancImm2B bitAbs andAbs rolAbs rlaAbs bmiRel andIzy rlaIzy nopZpx34 andZpx rolZpx rlaZpx andAby
    rlaAby nopAbx3C andAbx rolAbx rlaAbx eorIzx sreIzx nopZp44 eorZp lsrZp sreZp eorImm alrImm jmpAbs eorAbs lsrAbs
    sreAbs bvcRel eorIzy sreIzy nopZpx54 eorZpx lsrZpx sreZpx eorAby sreAby nopAbx5C eorAbx lsrAbx sreAbx adcIzx
    rraIzx nopZp64 adcZp rorZp rraZp adcImm arrImm jmpInd adcAbs rorAbs rraAbs bvsRel adcIzy rraIzy nopZpx74 adcZpx
    rorZpx rraZpx adcAby rraAby nopAbx7C adcAbx rorAbx rraAbx nopImm80 staIzx nopImm82 saxIzx styZp staZp stxZp
    saxZp nopImm89 aneImm styAbs staAbs stxAbs saxAbs bccRel staIzy shaIzy styZpx staZpx stxZpy saxZpy staAby tasAby
    shyAbx staAbx shxAby shaAby ldyImm ldaIzx ldxImm laxIzx ldyZp ldaZp ldxZp laxZp ldaImm lxaImm ldyAbs ldaAbs
    ldxAbs laxAbs bcsRel ldaIzy laxIzy ldyZpx ldaZpx ldxZpy laxZpy ldaAby lasAby ldyAbx ldaAbx ldxAby laxAby cpyImm
    cmpIzx nopImmC2 dcpIzx cpyZp cmpZp decZp dcpZp cmpImm axsImm cpyAbs cmpAbs decAbs dcpAbs bneRel cmpIzy dcpIzy
    nopZpxD4 cmpZpx decZpx dcpZpx cmpAby dcpAby nopAbxDC cmpAbx decAbx dcpAbx cpxImm sbcIzx nopImmE2 iscIzx cpxZp
    sbcZp incZp iscZp sbcImm sbcImmEB cpxAbs sbcAbs incAbs iscAbs beqRel sbcIzy iscIzy nopZpxF4 sbcZpx incZpx iscZpx
    sbcAby iscAby nopAbxFC sbcAbx incAbx iscAbx brk jam02 php aslAcc jam12 clc nop1A jam22 plp rolAcc jam32 sec
    nop3A rti jam42 pha lsrAcc jam52 cli nop5A rts jam62 pla rorAcc jam72 sei nop7A dey txa jam92 tya txs tay tax
    jamB2 clv tsx iny dex jamD2 cld nopDA inx nop jamF2 sed nopFA

/-- Settles O5: every encoding is an opcode byte and the operand bytes its shape asks for. -/
theorem decodeOfEncode : Obligations.DecodeOfEncode := fun i rest _ =>
  decode_encode_of_decodesBack (decodesBack i) rest

/-- What a decode has found: the opcode's shape, and as many operand bytes as it has. -/
theorem decode_cases {bytes left : List Byte} {i : Instr} (h : decode bytes = .ok (i, left)) :
    (∃ op, opcodeShape op = .plain i ∧ bytes = op :: left) ∨
    (∃ op f b, opcodeShape op = .byte f ∧ i = f b ∧ bytes = op :: b :: left) ∨
    ∃ op f l u, opcodeShape op = .word f ∧ i = f (wordOf l u) ∧ bytes = op :: l :: u :: left := by
  match bytes with
  | [] => cases h
  | op :: rest =>
    cases hshape : opcodeShape op with
    | plain j =>
      rw [decode_plain hshape] at h
      cases h
      exact .inl ⟨op, hshape, rfl⟩
    | byte f =>
      match rest with
      | [] => simp only [decode, hshape] at h; cases h
      | b :: rest =>
        rw [decode_byte hshape] at h
        cases h
        exact .inr (.inl ⟨op, f, b, hshape, rfl, rfl⟩)
    | word f =>
      match rest with
      | [] | [_] => simp only [decode, hshape] at h; cases h
      | l :: u :: rest =>
        rw [decode_word hshape] at h
        cases h
        exact .inr (.inr ⟨op, f, l, u, hshape, rfl, rfl⟩)

theorem encode_of_plain {op : Byte} {i : Instr} (h : opcodeShape op = .plain i) : encode i = [op] ∧ op ≠ 0x20 := by
  have hshape := Machine.shapeEncodes op
  unfold Machine.ShapeEncodes at hshape
  rw [h] at hshape
  exact hshape

theorem encode_of_byte {op : Byte} {f : Byte → Instr} (h : opcodeShape op = .byte f) (b : Byte) :
    encode (f b) = [op, b] ∧ op ≠ 0x20 := by
  have hshape := Machine.shapeEncodes op
  unfold Machine.ShapeEncodes at hshape
  rw [h] at hshape
  exact ⟨hshape.1 b, hshape.2⟩

theorem encode_of_word {op : Byte} {f : Word → Instr} (h : opcodeShape op = .word f) (w : Word) :
    encode (f w) = [op, loByte w, hiByte w] := by
  have hshape := Machine.shapeEncodes op
  unfold Machine.ShapeEncodes at hshape
  rw [h] at hshape
  exact hshape w

theorem encode_decode {bytes left : List Byte} {i : Instr} (h : decode bytes = .ok (i, left)) :
    encode i ++ left = bytes := by
  rcases decode_cases h with ⟨op, hshape, rfl⟩ | ⟨op, f, b, hshape, rfl, rfl⟩ | ⟨op, f, l, u, hshape, rfl, rfl⟩
  · rw [(encode_of_plain hshape).1]; rfl
  · rw [(encode_of_byte hshape b).1]; rfl
  · rw [encode_of_word hshape, loByte_wordOf, hiByte_wordOf]; rfl

/-- Settles O6: each of the three shapes decodes where three bytes stand, and `encode_decode`. -/
theorem everyOpcodeDecodesAndReencodes : Obligations.EveryOpcodeDecodesAndReencodes := by
  refine ⟨fun b0 b1 b2 rest => ?_, fun _ _ _ => encode_decode⟩
  cases hshape : opcodeShape b0 with
  | plain i => exact ⟨i, _, decode_plain hshape _, .inl (congrArg List.length (encode_of_plain hshape).1)⟩
  | byte f => exact ⟨f b1, _, decode_byte hshape _ _, .inr (.inl (congrArg List.length (encode_of_byte hshape b1).1))⟩
  | word f => exact ⟨f (wordOf b1 b2), _, decode_word hshape _ _ _, .inr (.inr (congrArg List.length (encode_of_word hshape _)))⟩

/-- Settles O7: each word is evaluated. -/
theorem specWordsDecode : Obligations.SpecWordsDecode :=
  ⟨rfl, rfl, rfl, rfl, rfl, rfl, rfl, rfl, rfl, rfl, rfl, rfl, rfl, rfl, rfl, rfl⟩

end Sys2Proof
end

section
/-! SUPPORT. Which registers and flags an instruction writes (R21 to R32), and that D has no effect on what it computes (R30,
R181). -/

namespace Sys2Proof.Machine

section
variable {u : State} {len : Word} {a x y sp : Byte} {p : Flags}
@[simp] theorem retireWith_a : (u.retireWith len a x y sp p).a = a := rfl
@[simp] theorem retireWith_x : (u.retireWith len a x y sp p).x = x := rfl
@[simp] theorem retireWith_y : (u.retireWith len a x y sp p).y = y := rfl
@[simp] theorem retireWith_sp : (u.retireWith len a x y sp p).sp = sp := rfl
end

/-! ## Flags -/

/-- Which flags an instruction leaves, by its mnemonic. -/
def LeavesFlags (mnemonic : String) (p q : Flags) : Prop :=
  (mnemonic ∉ ["ADC", "SBC", "CMP", "CPX", "CPY", "ASL", "LSR", "ROL", "ROR", "SEC", "CLC", "PLP", "RTI", "SLO", "RLA",
    "SRE", "RRA", "DCP", "ISC", "ANC", "ALR", "ARR", "AXS"] → q.c = p.c) ∧
  (mnemonic ∉ ["LDA", "LDX", "LDY", "TAX", "TAY", "TXA", "TYA", "TSX", "PLA", "ADC", "SBC", "CMP", "CPX", "CPY", "INC",
    "INX", "INY", "DEC", "DEX", "DEY", "AND", "ORA", "EOR", "BIT", "ASL", "LSR", "ROL", "ROR", "PLP", "RTI", "SLO", "RLA",
    "SRE", "RRA", "DCP", "ISC", "LAX", "LAS", "ANC", "ALR", "ARR", "AXS", "ANE", "LXA"] → q.z = p.z ∧ q.n = p.n) ∧
  (mnemonic ∉ ["CLI", "SEI", "PLP", "RTI", "BRK"] → q.i = p.i) ∧
  (mnemonic ∉ ["CLD", "SED", "PLP", "RTI"] → q.d = p.d) ∧
  (mnemonic ∉ ["ADC", "SBC", "BIT", "CLV", "PLP", "RTI", "RRA", "ISC", "ARR"] → q.v = p.v)

theorem leavesFlags_of_eq {mnemonic : String} {p q : Flags} (h : q = p) : LeavesFlags mnemonic p q := by
  rw [h]
  exact ⟨fun _ => rfl, fun _ => ⟨rfl, rfl⟩, fun _ => rfl, fun _ => rfl, fun _ => rfl⟩

theorem ReadRuns.leavesFlags {mnemonic : String} {o : Operand} {run : State → State} (h : ReadRuns mnemonic o run)
    (s : State) : LeavesFlags mnemonic s.p (run s).p := by
  cases h with
  | lda | ldx | ldy | lax | las | and | ora | eor =>
    simp [LeavesFlags, loadA_eq, loadX_eq, loadY_eq, loadAX_eq, loadAXS_eq, logicA_eq, Flags.setZN]
  | adc | sbc => simp [LeavesFlags, addToA_eq, subFromA_eq, addFlags_eq, subFlags_eq]
  | cmp | cpx | cpy => simp [LeavesFlags, compareWith_eq, compareFlags]
  | bit => simp [LeavesFlags, bitTest_eq, bitFlags]
  | nop => rw [readAndDiscard_eq]; exact leavesFlags_of_eq rfl
  | anc | alr | arr | axs =>
    simp [LeavesFlags, andCarry_eq, andShiftRight_eq, andRotateRight_eq, subtractIntoX_eq, Flags.setZN, lsrFlags, arrFlags,
      compareFlags]

theorem ModifyRuns.leavesFlags {mnemonic : String} {m : Mode} {run : State → State} (h : ModifyRuns mnemonic m run)
    (s : State) : LeavesFlags mnemonic s.p (run s).p := by
  cases h with
  | inc | dec | asl | lsr | rol | ror =>
    simp [LeavesFlags, modifyByte_eq, incFlags, decFlags, aslFlags, lsrFlags, rolFlags, rorFlags, Flags.setZN]
  | slo | rla | sre =>
    simp [LeavesFlags, shiftLeftOr_eq, rotateLeftAnd_eq, shiftRightEor_eq, aslFlags, rolFlags, lsrFlags, Flags.setZN]
  | rra | dcp | isc =>
    simp [LeavesFlags, rotateRightAdd_eq, decrementCompare_eq, incrementSubtract_eq, rorFlags, addFlags_eq, compareFlags,
      subFlags_eq, Flags.setZN]

theorem ImpliedRuns.leavesFlags {mnemonic : String} {run : State → State} (h : ImpliedRuns mnemonic run) (s : State) :
    LeavesFlags mnemonic s.p (run s).p := by
  cases h with
  | txs | nop => exact leavesFlags_of_eq rfl
  | tax | tay | txa | tya | tsx | inx | iny | dex | dey => simp [LeavesFlags, Flags.setZN]
  | asl | lsr | rol | ror => simp [LeavesFlags, shiftA_eq, aslFlags, lsrFlags, rolFlags, rorFlags, Flags.setZN]
  | clc | sec | cld | sed | clv => simp [LeavesFlags]

theorem Runs.leavesFlags {run : State → State} {mnemonic : String} {n : Nat} {c : State → Nat}
    (h : Runs run mnemonic n c) (s : State) : LeavesFlags mnemonic s.p (run s).p := by
  cases h with
  | read h => exact h.leavesFlags s
  | modify h => exact h.leavesFlags s
  | implied h => exact h.leavesFlags s
  | store h =>
    obtain ⟨v, heq⟩ := h.exists_eq s
    rw [heq]
    exact leavesFlags_of_eq rfl
  | unstable h m => exact leavesFlags_of_eq (unstableStore_p m s)
  | tas m => exact leavesFlags_of_eq (unstableStore_p m s.drawn)
  | branch h r => exact leavesFlags_of_eq (branchIf_p ..)
  | rts => exact leavesFlags_of_eq (by simp [returnFromSubroutine])
  | jsr w => exact leavesFlags_of_eq (by simp [callSubroutine])
  | jmpAbs | jmpInd | pha | php | jam => exact leavesFlags_of_eq rfl
  | brk => simp [LeavesFlags, breakInterrupt]
  | rti | plp => simp [LeavesFlags]
  | cli | sei => simp [LeavesFlags, setInterruptDisable]
  | pla => simp [LeavesFlags, pullA_eq, Flags.setZN]
  | ane | lxa => simp [LeavesFlags, unstableA_eq, unstableAX_eq, Flags.setZN]
where
  unstableStore_p (m : Mode) (s : State) : (unstableStore m s).p = s.p := by
    obtain ⟨w, v, i, d, _, _, heq⟩ := unstableStore_exists_eq m s
    rw [heq]; rfl
  branchIf_p (taken : Bool) (r : Byte) (s : State) : (branchIf taken r s).p = s.p := by rw [branchIf_eq]

/-- Settles O11: by the class of the instruction, and in a class by the mnemonic. -/
theorem onlyNamedInstructionsWriteFlags : Obligations.OnlyNamedInstructionsWriteFlags := by
  intro i s t hexec
  obtain ⟨run, hrun, hruns⟩ := exec_runs i
  obtain rfl : run s = t := Host.Outcome.next.inj ((hrun s).symm.trans hexec)
  exact hruns.leavesFlags s

/-! ## Registers -/

/-- Which registers an instruction leaves, by its mnemonic. -/
def LeavesRegisters (mnemonic : String) (s t : State) : Prop :=
  (mnemonic ∉ ["LDA", "PLA", "TXA", "TYA", "ADC", "SBC", "AND", "ORA", "EOR", "ASL", "LSR", "ROL", "ROR", "SLO", "RLA",
    "SRE", "RRA", "ISC", "LAX", "LAS", "ANC", "ALR", "ARR", "ANE", "LXA"] → t.a = s.a) ∧
  (mnemonic ∉ ["LDX", "TAX", "TSX", "INX", "DEX", "LAX", "LAS", "AXS", "LXA"] → t.x = s.x) ∧
  (mnemonic ∉ ["LDY", "TAY", "INY", "DEY"] → t.y = s.y) ∧
  (mnemonic ∉ ["TXS", "PHA", "PHP", "PLA", "PLP", "JSR", "RTS", "RTI", "BRK", "LAS", "TAS"] → t.sp = s.sp)

theorem Registers.leavesRegisters {mnemonic : String} {s t : State} (h : Registers s.a s.x s.y s.sp t) :
    LeavesRegisters mnemonic s t := ⟨fun _ => h.a, fun _ => h.x, fun _ => h.y, fun _ => h.sp⟩

theorem ReadRuns.leavesRegisters {mnemonic : String} {o : Operand} {run : State → State} (h : ReadRuns mnemonic o run)
    (s : State) : LeavesRegisters mnemonic s (run s) := by
  cases h with
  | lda | ldx | ldy | lax | las =>
    simp [LeavesRegisters, loadA_eq, loadX_eq, loadY_eq, loadAX_eq, loadAXS_eq]
  | adc | sbc | and | ora | eor => simp [LeavesRegisters, addToA_eq, subFromA_eq, logicA_eq]
  | cmp | cpx | cpy | bit | nop =>
    simp [LeavesRegisters, compareWith_eq, bitTest_eq, readAndDiscard_eq]
  | anc | alr | arr | axs =>
    simp [LeavesRegisters, andCarry_eq, andShiftRight_eq, andRotateRight_eq, subtractIntoX_eq]

theorem ModifyRuns.leavesRegisters {mnemonic : String} {m : Mode} {run : State → State} (h : ModifyRuns mnemonic m run)
    (s : State) : LeavesRegisters mnemonic s (run s) := by
  cases h with
  | inc | dec | asl | lsr | rol | ror => simp [LeavesRegisters, modifyByte_eq]
  | slo | rla | sre => simp [LeavesRegisters, shiftLeftOr_eq, rotateLeftAnd_eq, shiftRightEor_eq]
  | rra | dcp | isc => simp [LeavesRegisters, rotateRightAdd_eq, decrementCompare_eq, incrementSubtract_eq]

theorem ImpliedRuns.leavesRegisters {mnemonic : String} {run : State → State} (h : ImpliedRuns mnemonic run)
    (s : State) : LeavesRegisters mnemonic s (run s) := by
  cases h with
  | clc | sec | cld | sed | clv | nop => exact Registers.leavesRegisters ⟨rfl, rfl, rfl, rfl⟩
  | tax | tay | txa | tya | tsx | txs | inx | iny | dex | dey => simp [LeavesRegisters]
  | asl | lsr | rol | ror => simp [LeavesRegisters, shiftA_eq]

theorem Runs.leavesRegisters {run : State → State} {mnemonic : String} {n : Nat} {c : State → Nat}
    (h : Runs run mnemonic n c) (s : State) : LeavesRegisters mnemonic s (run s) := by
  cases h with
  | read h => exact h.leavesRegisters s
  | modify h => exact h.leavesRegisters s
  | implied h => exact h.leavesRegisters s
  | store h =>
    obtain ⟨v, heq⟩ := h.exists_eq s
    rw [heq]
    exact retireWith_registers.leavesRegisters
  | unstable h m => exact (unstableStore_registers m s).leavesRegisters
  | tas m =>
    have hstore := unstableStore_registers m s.drawn
    exact ⟨fun _ => hstore.a, fun _ => hstore.x, fun _ => hstore.y, fun h => absurd (by decide) h⟩
  | branch h r =>
    simp only [branchIf_eq_jumpAfter]
    obtain ⟨_, _, hregisters, _⟩ := jumpAfter_frame s _ s.sp _
    exact hregisters.leavesRegisters
  | jmpAbs | jmpInd | cli | sei | jam => exact Registers.leavesRegisters ⟨rfl, rfl, rfl, rfl⟩
  | jsr w => simp [LeavesRegisters, callSubroutine]
  | rts => simp [LeavesRegisters, returnFromSubroutine]
  | brk => simp [LeavesRegisters, breakInterrupt]
  | rti => simp [LeavesRegisters, State.returnFromInterrupt]
  | plp => simp [LeavesRegisters, pullFlags]
  | pha | php => simp [LeavesRegisters]
  | pla => simp [LeavesRegisters, pullA_eq]
  | ane | lxa => simp [LeavesRegisters, unstableA_eq, unstableAX_eq]
where
  unstableStore_registers (m : Mode) (s : State) : Registers s.a s.x s.y s.sp (unstableStore m s) := by
    obtain ⟨w, v, i, d, _, _, heq⟩ := unstableStore_exists_eq m s
    rw [heq]
    exact retireWith_registers

/-- Settles O12: by the class of the instruction, and in a class by the mnemonic. -/
theorem onlyNamedInstructionsWriteRegisters : Obligations.OnlyNamedInstructionsWriteRegisters := by
  intro i s t hexec
  obtain ⟨run, hrun, hruns⟩ := exec_runs i
  obtain rfl : run s = t := Host.Outcome.next.inj ((hrun s).symm.trans hexec)
  exact hruns.leavesRegisters s

/-! ## The IRQ gate -/

/-- After every instruction but SEI, CLI and PLP, and JAM, the IRQ gate takes the new I (R42, R306, R320). -/
theorem Runs.iPoll {run : State → State} {mnemonic : String} {n : Nat} {c : State → Nat}
    (h : Runs run mnemonic n c) (s : State) : mnemonic = "JAM" ∨ mnemonic ∈ ["SEI", "CLI", "PLP"] ∧ (run s).iPoll = s.p.i ∨
      mnemonic ∉ ["SEI", "CLI", "PLP"] ∧ (run s).iPoll = (run s).p.i := by
  cases h with
  | jam => exact .inl rfl
  | sei | cli | plp => exact .inr (.inl ⟨by decide, rfl⟩)
  | read h =>
    obtain ⟨a, x, y, sp, p, heq⟩ := h.exists_eq s
    exact .inr (.inr ⟨by cases h <;> decide, by rw [heq]; rfl⟩)
  | implied h =>
    obtain ⟨a, x, y, sp, p, heq⟩ := h.exists_eq s
    exact .inr (.inr ⟨by cases h <;> decide, by rw [heq]; rfl⟩)
  | store h => exact .inr (.inr ⟨by cases h <;> decide, by cases h <;> rfl⟩)
  | modify h =>
    obtain ⟨v, a, p, heq⟩ := h.exists_eq s
    exact .inr (.inr ⟨by cases h <;> decide, by rw [heq]; rfl⟩)
  | branch h r => exact .inr (.inr ⟨by cases h <;> decide, by simp only [branchIf_eq_jumpAfter]; rfl⟩)
  | unstable h m => exact .inr (.inr ⟨by cases h <;> decide, rfl⟩)
  | jmpAbs | jmpInd | jsr | rts | brk | rti | pha | php | pla | ane | lxa | tas => exact .inr (.inr ⟨by decide, rfl⟩)

/-- Settles O15: by the class of the instruction. -/
theorem gateSeesOldInterruptDisableOnlyAfterCliSeiPlp :
    Obligations.GateSeesOldInterruptDisableOnlyAfterCliSeiPlp := by
  intro i s hjam
  obtain ⟨run, hrun, hruns⟩ := exec_runs i
  refine ⟨run s, hrun s, ?_⟩
  rcases hruns.iPoll s with h | ⟨hmem, h⟩ | ⟨hmem, h⟩
  · exact absurd h hjam
  · rw [if_pos hmem, h]
  · rw [if_neg hmem, h]

end Sys2Proof.Machine
end

section
/-! SUPPORT. D has no effect (R30, R181): forming addresses, reading, writing and the meanings of the instructions commute with
setting D. -/

namespace Sys2Proof.Machine

/-- The state with D set to `d`. -/
def State.withD (s : State) (d : Bool) : State := { s with p := { s.p with d := d } }

variable (s : State) (d : Bool)

theorem pointerCycles_withD (m : Mode) : (s.withD d).pointerCycles m = (s.pointerCycles m).withD d := by
  cases m <;> rfl

theorem addressed_withD (m : Mode) (k : Access) : (s.withD d).addressed m k = (s.addressed m k).withD d := by
  have hea : (s.withD d).pageCross m = s.pageCross m := by cases m <;> rfl
  have huncarried : (s.withD d).uncarried m = s.uncarried m := by cases m <;> rfl
  unfold State.addressed
  rw [hea, huncarried, pointerCycles_withD]
  split <;> rfl

theorem ea_withD (m : Mode) : (s.withD d).ea m = s.ea m := by cases m <;> rfl

theorem operandRead_withD (o : Operand) : (s.withD d).operandRead o = (s.operandRead o).withD d := by
  cases o with
  | imm n => rfl
  | mem m => rw [State.operandRead, State.operandRead, addressed_withD, ea_withD]; rfl

theorem operandValue_withD (o : Operand) : (s.withD d).operandValue o = s.operandValue o := by
  cases o with
  | imm n => rfl
  | mem m => rw [State.operandValue, State.operandValue, addressed_withD, ea_withD]; rfl

theorem stored_withD (m : Mode) (v : Byte) : (s.withD d).stored m v = (s.stored m v).withD d := by
  rw [State.stored, State.stored, addressed_withD, ea_withD]; rfl

theorem modifyOld_withD (m : Mode) : (s.withD d).modifyOld m = s.modifyOld m := by
  rw [State.modifyOld, State.modifyOld, addressed_withD, ea_withD]; rfl

theorem modified_withD (m : Mode) (v : Byte) : (s.withD d).modified m v = (s.modified m v).withD d := by
  rw [State.modified, State.modified, addressed_withD, ea_withD, modifyOld_withD]; rfl

theorem branchIf_withD (taken : Bool) (r : Byte) : branchIf taken r (s.withD d) = (branchIf taken r s).withD d := by
  unfold branchIf
  cases taken with
  | false => rfl
  | true =>
    by_cases hpage : hiByte (branchTarget s.pc r) = hiByte (s.pc + 2)
    · simp only [State.withD, hpage]; rfl
    · simp only [State.withD, hpage]; rfl

theorem unstableStored_withD (m : Mode) : (s.withD d).unstableStored m = (s.unstableStored m).withD d := by
  have hcross : (s.withD d).pageCross m = s.pageCross m := by cases m <;> rfl
  unfold State.unstableStored
  simp only [addressed_withD, ea_withD, hcross]
  split <;> rfl

/-- The mnemonics that write D (R30). -/
def decimalWriters : List String := ["SED", "CLD", "PLP", "RTI"]

/-- D does not enter what `run` computes: it stays, or `run` overwrites it. -/
def IgnoresD (mnemonic : String) (run : State → State) : Prop :=
  ∀ (s : State) (d : Bool), run (s.withD d) = (run s).withD (if mnemonic ∈ decimalWriters then (run s).p.d else d)

section
variable {mnemonic : String} {run : State → State}

theorem ignoresD_of_commutes (hmem : mnemonic ∉ decimalWriters) (h : ∀ s d, run (s.withD d) = (run s).withD d) :
    IgnoresD mnemonic run := fun s d => by rw [if_neg hmem, h]

theorem ignoresD_of_eq (hmem : mnemonic ∈ decimalWriters) (h : ∀ s d, run (s.withD d) = run s) :
    IgnoresD mnemonic run := fun s d => by rw [if_pos hmem, h]; rfl

theorem ReadRuns.ignoresD {o : Operand} (h : ReadRuns mnemonic o run) : IgnoresD mnemonic run := by
  refine ignoresD_of_commutes (by cases h <;> decide) fun s d => ?_
  cases h with
  | anc | alr | arr | axs => rfl
  | lda | ldx | ldy | lax | las | nop =>
    simp only [loadA_eq, loadX_eq, loadY_eq, loadAX_eq, loadAXS_eq, readAndDiscard_eq, operandRead_withD,
      operandValue_withD]
    rfl
  | adc | sbc | cmp | cpx | cpy | and | ora | eor | bit =>
    simp only [addToA_eq, subFromA_eq, compareWith_eq, logicA_eq, bitTest_eq, operandRead_withD, operandValue_withD]
    rfl

theorem StoreRuns.ignoresD {m : Mode} (h : StoreRuns mnemonic m run) : IgnoresD mnemonic run := by
  refine ignoresD_of_commutes (by cases h <;> decide) fun s d => ?_
  cases h <;> simp only [storeByte, stored_withD] <;> rfl

theorem ModifyRuns.ignoresD {m : Mode} (h : ModifyRuns mnemonic m run) : IgnoresD mnemonic run := by
  refine ignoresD_of_commutes (by cases h <;> decide) fun s d => ?_
  cases h <;> simp only [modifyByte, shiftLeftOr, rotateLeftAnd, shiftRightEor, rotateRightAdd, decrementCompare,
    incrementSubtract, modified_withD, modifyOld_withD] <;> rfl

theorem ImpliedRuns.ignoresD (h : ImpliedRuns mnemonic run) : IgnoresD mnemonic run := by
  cases h with
  | cld | sed => exact ignoresD_of_eq (by decide) fun _ _ => rfl
  | tax | tay | txa | tya | tsx | txs | inx | iny | dex | dey | asl | lsr | rol | ror | clc | sec | clv | nop =>
    exact ignoresD_of_commutes (by decide) fun _ _ => rfl

/-- PHP and BRK push the flags; every other instruction computes without D. -/
theorem Runs.ignoresD {n : Nat} {c : State → Nat} (h : Runs run mnemonic n c) (hpush : mnemonic ∉ ["PHP", "BRK"]) :
    IgnoresD mnemonic run := by
  cases h with
  | php | brk => exact absurd (by decide) hpush
  | read h => exact h.ignoresD
  | store h => exact h.ignoresD
  | modify h => exact h.ignoresD
  | implied h => exact h.ignoresD
  | branch h r =>
    refine ignoresD_of_commutes (by cases h <;> decide) fun s d => ?_
    cases h <;> exact branchIf_withD s d _ r
  | unstable h m =>
    refine ignoresD_of_commutes (by cases h <;> decide) fun s d => ?_
    simp only [unstableStore, unstableStored_withD]; rfl
  | tas m =>
    refine ignoresD_of_commutes (by decide) fun s d => ?_
    have hdrawn : (s.withD d).drawn = s.drawn.withD d := rfl
    simp only [unstableStackStore, hdrawn, unstableStored_withD]; rfl
  | plp | rti => exact ignoresD_of_eq (by decide) fun _ _ => rfl
  | jmpAbs | jmpInd | jsr | rts | cli | sei | pha | pla | ane | lxa | jam =>
    exact ignoresD_of_commutes (by decide) fun _ _ => rfl

end

/-- Settles O14: by the class of the instruction. -/
theorem decimalFlagChangesNothingElse : Obligations.DecimalFlagChangesNothingElse := by
  intro i s d hpush
  obtain ⟨run, hrun, hruns⟩ := exec_runs i
  exact ⟨run s, hrun s, (hrun (s.withD d)).trans (congrArg _ (hruns.ignoresD hpush s d))⟩

end Sys2Proof.Machine
end

section
/-! SUPPORT. The fetch and the cycles of an instruction step (R100, R102, R371), and which step is which instruction (R250,
R320). -/

namespace Sys2Proof.Machine

/-! ## Cycles -/

theorem readCycles_bus_length (as : List Word) (s : State) :
    (s.readCycles as).bus.length = s.bus.length + as.length := by
  induction as generalizing s with
  | nil => rfl
  | cons a as ih => rw [State.readCycles, List.foldl_cons]; exact (ih (s.readCycle a)).trans (by simp; omega)

/-- A branch makes the dummy reads of R375, which are what the table counts beyond its two fetches. -/
theorem branchIf_bus_length (taken : Bool) (r : Byte) (s : State) :
    (branchIf taken r s).bus.length + 2 = s.bus.length + branchCycles taken r s.pc := by
  have hreads : (branchReads taken (s.pc + 2) (branchPc taken s.pc r)).length + 2 = branchCycles taken r s.pc := by
    unfold branchReads branchCycles branchPc
    cases taken with
    | false => rfl
    | true =>
      simp only [if_true, Bool.not_true, Bool.false_eq_true, if_false]
      split <;> rfl
  rw [branchIf_eq_jumpAfter, ← hreads, ← Nat.add_assoc, ← readCycles_bus_length]
  rfl

theorem unstableStore_bus_length (m : Mode) (s : State) :
    (unstableStore m s).bus.length + (m.bytes.length + 1) = s.bus.length + m.storeCycles := by
  obtain ⟨w, v, i, d, _, _, heq⟩ := unstableStore_exists_eq m s
  have hbus : (unstableStore m s).bus = .write w v :: (s.addressed m .write).bus := by rw [heq]; rfl
  rw [hbus, addressed_write_bus, ← addressReads_length, List.length_cons]

/-- After the fetch an instruction adds to the history what the table leaves of its cycles. -/
theorem Runs.bus_length {run : State → State} {mnemonic : String} {n : Nat} {c : State → Nat}
    (h : Runs run mnemonic n c) (s : State) : (run s).bus.length + n = s.bus.length + c s := by
  cases h with
  | read h =>
    obtain ⟨a, x, y, sp, p, heq⟩ := h.exists_eq s
    rw [heq]
    exact operandRead_bus_length s _
  | store h =>
    obtain ⟨v, heq⟩ := h.exists_eq s
    rw [heq]
    exact stored_bus_length s _ v
  | modify h =>
    obtain ⟨v, a, p, heq⟩ := h.exists_eq s
    rw [heq]
    exact modified_bus_length s _ v
  | implied h =>
    obtain ⟨a, x, y, sp, p, heq⟩ := h.exists_eq s
    rw [heq]
    rfl
  | branch _ r => exact branchIf_bus_length _ r s
  | unstable _ m => exact unstableStore_bus_length m s
  | tas m => exact unstableStore_bus_length m s.drawn
  | rts => simp [returnFromSubroutine]
  | brk => simp [breakInterrupt]
  | rti => simp [State.returnFromInterrupt]
  | pla => simp [pullA]
  | plp => simp [pullFlags]
  | jsr w => simp [callSubroutine]
  | jmpAbs | jmpInd | cli | sei | pha | php | ane | lxa | jam => rfl

/-! ## The fetch -/

theorem fetch_plain {s : State} {i : Instr} (h : opcodeShape (s.busRead s.pc) = .plain i) :
    s.fetch = (i, s.readCycle s.pc) := by
  unfold State.fetch instrOf
  simp only [h, Shape.operands, Shape.build]

theorem fetch_byte {s : State} {f : Byte → Instr} (h : opcodeShape (s.busRead s.pc) = .byte f) :
    s.fetch = (f ((s.readCycle s.pc).busRead (s.pc + 1)), (s.readCycle s.pc).readCycle (s.pc + 1)) := by
  unfold State.fetch instrOf
  simp only [h, Shape.operands, Shape.build]

/-- The operand word of a three-byte instruction as the fetch reads it. -/
def State.fetchedWord (s : State) : Word :=
  wordOf ((s.readCycle s.pc).busRead (s.pc + 1)) (((s.readCycle s.pc).readCycle (s.pc + 1)).busRead (s.pc + 2))

theorem fetch_word {s : State} {f : Word → Instr} (h : opcodeShape (s.busRead s.pc) = .word f) :
    s.fetch = (f s.fetchedWord, if s.busRead s.pc = 0x20 then (s.readCycle s.pc).readCycle (s.pc + 1)
      else ((s.readCycle s.pc).readCycle (s.pc + 1)).readCycle (s.pc + 2)) := by
  unfold State.fetch instrOf
  simp only [h, Shape.operands, Shape.build]
  split <;> rfl

theorem bytesFetched_eq (i : Instr) : bytesFetched i = if (encode i).head? = some 0x20 then 2 else i.length := by
  cases i <;> rfl

theorem bytesFetched_of_encode {i : Instr} {op : Byte} {ops : List Byte} (h : encode i = op :: ops) :
    bytesFetched i = if op = 0x20 then 2 else ops.length + 1 := by
  rw [bytesFetched_eq, Instr.length, h]
  simp only [List.head?_cons, Option.some.injEq, List.length_cons]

/-- The fetch reads one byte a cycle, and as many as the instruction has, but JSR's third. -/
theorem fetch_bus_length (s : State) : s.fetch.2.bus.length = s.bus.length + bytesFetched s.fetch.1 := by
  cases hshape : opcodeShape (s.busRead s.pc) with
  | plain i =>
    obtain ⟨hencode, hop⟩ := encode_of_plain hshape
    rw [fetch_plain hshape, bytesFetched_of_encode hencode, if_neg hop]
    rfl
  | byte f =>
    obtain ⟨hencode, hop⟩ := encode_of_byte hshape ((s.readCycle s.pc).busRead (s.pc + 1))
    rw [fetch_byte hshape, bytesFetched_of_encode hencode, if_neg hop]
    rfl
  | word f =>
    rw [fetch_word hshape, bytesFetched_of_encode (encode_of_word hshape s.fetchedWord)]
    split <;> rfl

/-! ## The table is about the state before the fetch -/

/-- The fetch and the latch leave what the cycle table reads. -/
theorem crossing_fetch (s : State) (m : Mode) : s.fetch.2.crossing m = s.crossing m := by
  have hbase : s.fetch.2.base m = s.base m := by
    rw [fetch_eq]
    cases m with
    | zp z | zpx z | zpy z | abs w | abx w | aby w => rfl
    | izx z | izy z => simp only [State.base, State.pointerAt, busRead_zeroPage]; rfl
  have hindex : s.fetch.2.index m = s.index m := by
    rw [fetch_eq]
    cases m <;> rfl
  have hcross : s.fetch.2.pageCross m = s.pageCross m := by
    unfold State.pageCross State.ea
    rw [hbase, hindex]
  rw [State.crossing, State.crossing, hcross]

theorem cycles_fetch (i : Instr) (s : State) : cycles i s.fetch.2 = cycles i s := by
  cases i <;> simp only [cycles, crossing_fetch, fetch_p, fetch_pc]

theorem cycles_latchNmi (i : Instr) (s : State) : cycles i s.latchNmi = cycles i s := by
  cases i <;> rfl

theorem fetch_latchNmi (s : State) : s.latchNmi.fetch.1 = s.fetch.1 := by
  cases hshape : opcodeShape (s.busRead s.pc) with
  | plain i => rw [fetch_plain hshape, fetch_plain (s := s.latchNmi) hshape]
  | byte f => rw [fetch_byte hshape, fetch_byte (s := s.latchNmi) hshape]; rfl
  | word f => rw [fetch_word hshape, fetch_word (s := s.latchNmi) hshape]; rfl

/-- Settles O10: the fetch reads its bytes, the instruction makes the rest of the table's cycles. -/
theorem stepTakesTableCycles : Obligations.StepTakesTableCycles := by
  refine ⟨fun s t hbusy hstep => ?_, fun s v => ?_, fun s => ?_⟩
  · rw [step_of_not_busy hbusy, runInstruction_eq] at hstep
    split at hstep
    · cases hstep
    · obtain ⟨run, hrun, hruns⟩ := exec_runs s.environment.latchNmi.fetch.1
      obtain rfl := Host.Outcome.next.inj ((hrun _).symm.trans hstep)
      have hlength := hruns.bus_length s.environment.latchNmi.fetch.2
      rw [fetch_bus_length, cycles_fetch, cycles_latchNmi, fetch_latchNmi] at hlength
      have hbus : s.environment.latchNmi.bus = s.environment.bus := rfl
      rw [hbus] at hlength
      omega
  · simp [State.interrupt]
  · simp

end Sys2Proof.Machine
end

section
/-! SUPPORT. Which steps run an instruction, and which are refused (R250, R300, R320). -/

namespace Sys2Proof.Machine

/-! ## A step runs what is stored at `pc` -/

/-- The read cycles of a fetch of `n` bytes at `pc`, newest first. -/
def fetchReads (pc : Word) (n : Nat) : List BusCycle :=
  ((List.range n).map fun k => BusCycle.read (pc + BitVec.ofNat 16 k)).reverse

theorem fetchReads_one (pc : Word) : fetchReads pc 1 = [.read pc] := by
  simp [fetchReads, List.range_succ]

theorem fetchReads_two (pc : Word) : fetchReads pc 2 = [.read (pc + 1), .read pc] := by
  simp [fetchReads, List.range_succ]

theorem fetchReads_three (pc : Word) : fetchReads pc 3 = [.read (pc + 2), .read (pc + 1), .read pc] := by
  simp [fetchReads, List.range_succ]

/-- Where storage holds the bytes of an instruction, the fetch finds it and only records its reads. -/
theorem fetch_of_stored {s : State} {b0 b1 b2 : Byte} {i : Instr} {left : List Byte}
    (hdecode : decode [b0, b1, b2] = .ok (i, left)) (h0 : s.byteAt s.pc = some b0)
    (h1 : 1 < i.length → s.byteAt (s.pc + 1) = some b1) (h2 : 2 < i.length → s.byteAt (s.pc + 2) = some b2) :
    s.fetch = (i, { s with bus := fetchReads s.pc (if b0 = 0x20 then 2 else i.length) ++ s.bus }) := by
  have hop := busRead_of_byteAt h0
  have hread := readCycle_of_byteAt h0
  rcases decode_cases hdecode with ⟨op, hshape, hbytes⟩ | ⟨op, f, b, hshape, rfl, hbytes⟩ |
    ⟨op, f, l, u, hshape, rfl, hbytes⟩ <;> cases hbytes
  · obtain ⟨hencode, hjsr⟩ := encode_of_plain hshape
    have hlength : i.length = 1 := congrArg List.length hencode
    rw [fetch_plain (by rw [hop]; exact hshape), hread, if_neg hjsr, hlength, fetchReads_one]
    rfl
  · obtain ⟨hencode, hjsr⟩ := encode_of_byte hshape b1
    have hlength : (f b1).length = 2 := congrArg List.length hencode
    have hb1 := h1 (by omega)
    have hop1 : (s.readCycle s.pc).busRead (s.pc + 1) = b1 := busRead_of_byteAt hb1
    have hread1 := readCycle_of_byteAt (s := s.readCycle s.pc) hb1
    rw [fetch_byte (by rw [hop]; exact hshape), hop1, hread1, hread, if_neg hjsr, hlength, fetchReads_two]
    rfl
  · have hencode := encode_of_word hshape (wordOf b1 b2)
    have hlength : (f (wordOf b1 b2)).length = 3 := congrArg List.length hencode
    have hb1 := h1 (by omega)
    have hb2 := h2 (by omega)
    have hop1 : (s.readCycle s.pc).busRead (s.pc + 1) = b1 := busRead_of_byteAt hb1
    have hop2 : ((s.readCycle s.pc).readCycle (s.pc + 1)).busRead (s.pc + 2) = b2 := busRead_of_byteAt hb2
    have hread1 := readCycle_of_byteAt (s := s.readCycle s.pc) hb1
    have hread2 := readCycle_of_byteAt (s := (s.readCycle s.pc).readCycle (s.pc + 1)) hb2
    rw [fetch_word (by rw [hop]; exact hshape), State.fetchedWord, hop, hop1, hop2, hread2, hread1, hread, hlength]
    by_cases hjsr : b0 = 0x20
    · rw [if_pos hjsr, if_pos hjsr, fetchReads_two]; rfl
    · rw [if_neg hjsr, if_neg hjsr, fetchReads_three]; rfl

/-- Settles O8: where nothing else is due the step is an instruction step, and the fetch finds the stored instruction. -/
theorem stepRunsDecodedInstruction : Obligations.StepRunsDecodedInstruction := by
  intro s b0 b1 b2 i left hbusy hdecode h0 h1 h2
  have hop : s.environment.latchNmi.busRead s.environment.latchNmi.pc = b0 := busRead_of_byteAt h0
  rw [step_of_not_busy hbusy, runInstruction_eq, fetch_of_stored (s := s.environment.latchNmi) hdecode h0 h1 h2, hop]
  rfl

/-! ## Refusals -/

/-- A boundary answers a next state, but where it would run an unstable opcode. -/
theorem boundary_next_or_refused (s : State) : (∃ t, s.boundary = .next t) ∨
    (s.busy = false ∨ s.rstMid.isSome = true) ∧ s.busRead s.pc ∈ unstableOpcodes ∧
      s.boundary = .refused (.declined (s.busRead s.pc)) := by
  unfold State.boundary
  split_ifs with hrst hreset hjam hnmi hirq
  case neg =>
    rw [runInstruction_eq]
    split_ifs with hop
    · refine .inr ⟨?_, hop, rfl⟩
      cases hmid : s.rstMid with
      | none => simp_all [State.busy]
      | some k => exact .inr rfl
    · obtain ⟨run, hrun, _⟩ := exec_runs s.latchNmi.fetch.1
      exact .inl ⟨_, hrun _⟩
  all_goals exact .inl ⟨_, rfl⟩

/-- A step answers a next state, or refuses the unstable opcode at `pc`. -/
theorem step_next_or_refused (s : State) : (∃ t, step s = .next t) ∨
    s.environment.busRead s.environment.pc ∈ unstableOpcodes ∧
      step s = .refused (.declined (s.environment.busRead s.environment.pc)) := by
  cases hmid : s.environment.rstMid with
  | none =>
    rw [step_of_uncut hmid]
    exact (boundary_next_or_refused s.environment).imp_right And.right
  | some k =>
    unfold step State.boundaryOrCut
    rw [hmid]
    rcases boundary_next_or_refused { s.environment with rstMid := none } with ⟨t, ht⟩ | ⟨_, hop, hrefused⟩
    · simp only [ht]
      exact .inl ⟨_, rfl⟩
    · simp only [hrefused]
      split_ifs
      · exact .inl ⟨_, rfl⟩
      · exact .inr ⟨hop, rfl⟩

theorem opcodeKind_eq_unstable {op : Byte} (h : op ∈ unstableOpcodes) : opcodeKind op = .unstable := if_pos h

theorem declinesOpcode_unstable {op : Byte} (h : op ∈ unstableOpcodes) (unofficial : Bool) :
    declinesOpcode (.ofSpec unofficial) op = true := by
  rw [declinesOpcode, opcodeKind_eq_unstable h]
  cases unofficial <;> rfl

theorem declinesOpcode_undocumented {op : Byte} (h : opcodeKind op ≠ .documented) :
    declinesOpcode (.ofSpec false) op = true := by
  rw [declinesOpcode]
  cases hkind : opcodeKind op with
  | documented => exact absurd hkind h
  | nop | stable | unstable | jam => rfl

theorem not_declinesOpcode {op : Byte} {unofficial : Bool}
    (h : opcodeKind op = .documented ∨ unofficial = true ∧ opcodeKind op ≠ .unstable) :
    declinesOpcode (.ofSpec unofficial) op = false := by
  rw [declinesOpcode]
  rcases h with h | ⟨rfl, h⟩
  · rw [h]; rfl
  · cases hkind : opcodeKind op with
    | unstable => exact absurd hkind h
    | documented | nop | stable | jam => rfl

/-- The spec's order of the seven unstable opcodes (R266 to R271) and the model's list. -/
theorem mem_unstable_iff (op : Byte) :
    op ∈ [0x8B, 0xAB, 0x9F, 0x93, 0x9E, 0x9C, 0x9B] ↔ op ∈ unstableOpcodes :=
  List.Perm.mem_iff (by decide)

/-- Settles O9: the answers of a step, the two treatments of R250, and the opcode bytes counted by kind. -/
theorem onlyUnstableOpcodesAreRefused : Obligations.OnlyUnstableOpcodesAreRefused := by
  unfold Obligations.OnlyUnstableOpcodesAreRefused
  intro unstable
  refine ⟨fun i s => ?exec, fun s hbusy hop => ?refused, fun s hmid hbusy => ?entry, fun s => ?step,
    fun s unofficial hop => ?unstable, fun s hkind => ?undocumented, fun s unofficial hkind => ?run, ?counts⟩
  case exec =>
    obtain ⟨run, hrun, _⟩ := exec_runs i
    exact ⟨_, hrun s⟩
  case refused => rw [step_of_not_busy hbusy, runInstruction_eq]; exact if_pos ((mem_unstable_iff _).1 hop)
  case entry =>
    rw [step_of_uncut hmid]
    rcases boundary_next_or_refused s.environment with h | ⟨hidle | hcut, _⟩
    · exact h
    · rw [hidle] at hbusy; cases hbusy
    · rw [hmid] at hcut; cases hcut
  case step => exact (step_next_or_refused s).imp_right fun ⟨hop, h⟩ => ⟨(mem_unstable_iff _).2 hop, h⟩
  case unstable => exact if_pos (declinesOpcode_unstable ((mem_unstable_iff _).1 hop) unofficial)
  case undocumented => exact if_pos (declinesOpcode_undocumented hkind)
  case run => rw [State.runInstructionUnder, not_declinesOpcode hkind]; rfl
  case counts => exact ⟨rfl, rfl, rfl, rfl, rfl⟩

end Sys2Proof.Machine
end

section
/-! SUPPORT. The state right after reset (R49, R51, R69), the reset of the APU (R48), and the byte form of the flags (R34 to
R37). -/

namespace Sys2Proof.Machine

/-! ## Reset values -/

/-- Settles O1: each field is evaluated. -/
theorem resetHoldsPowerUpValues : Obligations.ResetHoldsPowerUpValues :=
  ⟨⟨rfl, rfl, rfl, rfl⟩, rfl, rfl, rfl, rfl, by decide⟩

theorem memory_wf_nil (unlisted : Option Byte) : Memory.Wf unlisted [] := ⟨.nil, List.forall_mem_nil _⟩

/-- Settles O2: after reset both lists are empty, and the default cartridge passes its checks. -/
theorem resetMeetsInvariant : Obligations.ResetMeetsInvariant :=
  ⟨⟨memory_wf_nil none, List.forall_mem_nil _, memory_wf_nil (some 0)⟩, by decide⟩

/-- Settles O56: each register keeps the byte written to it, and the reset applies the column of R48 to it. -/
theorem resetActsOnApu : Obligations.ResetActsOnApu := fun s _ =>
  ⟨rfl, rfl, rfl, rfl, rfl, rfl, rfl, rfl, resetSequence_outLatch s⟩

/-! ## The pushed flags -/

/-- The bits of the pushed byte (R35). -/
theorem pack_bits (p : Flags) (b : Bool) :
    (p.pack b).getLsbD 7 = p.n ∧ (p.pack b).getLsbD 6 = p.v ∧ (p.pack b).getLsbD 5 = true ∧
    (p.pack b).getLsbD 4 = b ∧ (p.pack b).getLsbD 3 = p.d ∧ (p.pack b).getLsbD 2 = p.i ∧
    (p.pack b).getLsbD 1 = p.z ∧ (p.pack b).getLsbD 0 = p.c := by
  obtain ⟨n, v, d, i, z, c⟩ := p
  revert n v d i z c b
  decide

theorem unpack_pack (p : Flags) (b : Bool) : Flags.unpack (p.pack b) = p := by
  obtain ⟨hn, hv, _, _, hd, hi, hz, hc⟩ := pack_bits p b
  rw [Flags.unpack, hn, hv, hd, hi, hz, hc]

theorem pack_unpack (v : Byte) :
    (Flags.unpack v).pack true = v ||| 0x30 ∧ (Flags.unpack v).pack false = (v ||| 0x20) &&& 0xEF := by
  revert v; decide

/-- Settles O19: the byte's bits are the flags, so that unpacking undoes packing. -/
theorem pushedFlagByteKeepsFlags : Obligations.PushedFlagByteKeepsFlags := by
  intro p b v
  obtain ⟨h7, h6, h5, h4, h3, h2, h1, h0⟩ := pack_bits p b
  exact ⟨pack_toNat p b, h7, h6, h5, h4, h3, h2, h1, h0, unpack_pack p b, pack_unpack v⟩

end Sys2Proof.Machine
end

section
/-! SUPPORT. The stores (R143 to R145, R255) and the read-modify-writes on memory (R175, R176, R194 to R197, R251 to R254, R257,
R258): the frame of each class is proved once, and each mnemonic's forms run as its one function of the mode. -/

namespace Sys2Proof.Machine

/-! ## The frame of a store and of a read-modify-write -/

theorem retireWith_storedByte {s u : State} {w : Word} {v : Byte} {len : Word} {a x y sp : Byte} {p : Flags}
    (h : StoredByte w v s u) : StoredByte w v s (u.retireWith len a x y sp p) := ⟨h.there, h.others⟩

theorem retireWith_writeOnly (m : Mode) (v : Byte) (s : State) (a x y sp : Byte) :
    WriteOnly m v s ((s.stored m v).retireWith m.length a x y sp s.p) where
  retired := retireWith_retired (stored_pc s m v)
  flags := retireWith_p
  stored := retireWith_storedByte (stored_storedByte s m v)
  cart := stored_cart s m v
  apu := by rw [stored_eq]; rfl
  outLatch := by rw [stored_eq]; rfl
  pins := retireWith_samePins (stored_samePins s m v)
  bus := by rw [stored_eq]; rfl
  inputs := by rw [stored_eq]; rfl
  draws := by rw [stored_eq]; rfl

theorem retireWith_readModifyWrite (m : Mode) (v : Byte) (s : State) (a x y sp : Byte) (p : Flags) :
    ReadModifyWrite m v s ((s.modified m v).retireWith m.length a x y sp p) where
  retired := retireWith_retired (modified_pc s m v)
  stored := retireWith_storedByte (modified_storedByte s m v)
  cart := modified_cart s m v
  apu := by rw [modified_eq]; rfl
  outLatch := by rw [modified_eq]; rfl
  pins := retireWith_samePins (modified_samePins s m v)
  bus := by rw [modified_eq]; rfl
  inputs := by rw [modified_eq]; rfl
  draws := by rw [modified_eq]; rfl

/-! ## How the forms of a mnemonic on memory run -/

/-- `FormsRun` for the mnemonics whose operand is a place in memory. -/
def ModeFormsRun (forms : Mode → List Form) (run : Mode → State → State) : Prop :=
  ∀ m s, ∀ f ∈ forms m, encode f.2 = f.1 :: m.bytes ∧ exec f.2 s = .next (run m s)

theorem ModeFormsRun.exists_next {forms : Mode → List Form} {run : Mode → State → State} (h : ModeFormsRun forms run)
    {m : Mode} {s : State} {P : State → Prop} (hP : P (run m s)) :
    ∀ f ∈ forms m, encode f.2 = f.1 :: m.bytes ∧ ∃ t, exec f.2 s = .next t ∧ P t := fun f hf =>
  have ⟨hencode, hexec⟩ := h m s f hf
  ⟨hencode, run m s, hexec, hP⟩

/-- Forms that store a byte have the frame of a write (R118). -/
theorem ModeFormsRun.writeOnly {forms : Mode → List Form} {byte : State → Byte}
    (h : ModeFormsRun forms fun m s => storeByte m (byte s) s) (m : Mode) (s : State) :
    ∀ f ∈ forms m, encode f.2 = f.1 :: m.bytes ∧ ∃ t, exec f.2 s = .next t ∧
      WriteOnly m (byte s) s t ∧ Registers s.a s.x s.y s.sp t := by
  refine h.exists_next ?_
  rw [storeByte_eq]
  exact ⟨retireWith_writeOnly m (byte s) s s.a s.x s.y s.sp, retireWith_registers⟩

/-- Where the mnemonic's function is a read-modify-write with new registers and flags, each form has its frame (R118). -/
theorem ModeFormsRun.readModifyWrite {forms : Mode → List Form} {run : Mode → State → State}
    (h : ModeFormsRun forms run) {m : Mode} {s : State} {v a x y sp : Byte} {p : Flags}
    (hrun : run m s = (s.modified m v).retireWith m.length a x y sp p) :
    ∀ f ∈ forms m, encode f.2 = f.1 :: m.bytes ∧ ∃ t, exec f.2 s = .next t ∧
      ReadModifyWrite m v s t ∧ Registers a x y sp t ∧ t.p = p := by
  refine h.exists_next ?_
  rw [hrun]
  exact ⟨retireWith_readModifyWrite m v s a x y sp p, retireWith_registers, retireWith_p⟩

/-! ## STA, STX, STY and SAX -/

/-- STA has no `zp,Y` form (R143). -/
theorem staForms_run : ModeFormsRun staForms fun m s => storeByte m s.a s
  | .zp _, _ | .zpx _, _ | .abs _, _ | .abx _, _ | .aby _, _ | .izx _, _ | .izy _, _ =>
    List.forall_mem_singleton.2 ⟨rfl, rfl⟩
  | .zpy _, _ => List.forall_mem_nil _

/-- STX is indexed by Y on page zero only (R144). -/
theorem stxForms_run : ModeFormsRun stxForms fun m s => storeByte m s.x s
  | .zp _, _ | .zpy _, _ | .abs _, _ => List.forall_mem_singleton.2 ⟨rfl, rfl⟩
  | .zpx _, _ | .abx _, _ | .aby _, _ | .izx _, _ | .izy _, _ => List.forall_mem_nil _

/-- STY is indexed by X on page zero only (R145). -/
theorem styForms_run : ModeFormsRun styForms fun m s => storeByte m s.y s
  | .zp _, _ | .zpx _, _ | .abs _, _ => List.forall_mem_singleton.2 ⟨rfl, rfl⟩
  | .zpy _, _ | .abx _, _ | .aby _, _ | .izx _, _ | .izy _, _ => List.forall_mem_nil _

/-- SAX has four forms (R255). -/
theorem saxForms_run : ModeFormsRun saxForms fun m s => storeByte m (s.a &&& s.x) s
  | .zp _, _ | .zpy _, _ | .abs _, _ | .izx _, _ => List.forall_mem_singleton.2 ⟨rfl, rfl⟩
  | .zpx _, _ | .abx _, _ | .aby _, _ | .izy _, _ => List.forall_mem_nil _

/-- Settles O24: the forms of each mnemonic run as the one store of its byte. -/
theorem stores : Obligations.Stores := fun m s =>
  ⟨staForms_run.writeOnly m s, stxForms_run.writeOnly m s, styForms_run.writeOnly m s, saxForms_run.writeOnly m s⟩

/-! ## INC and DEC -/

/-- INC has the four forms of the documented read-modify-writes (R175). -/
theorem incForms_run : ModeFormsRun incForms fun m => modifyByte m incValue incFlags
  | .zp _, _ | .zpx _, _ | .abs _, _ | .abx _, _ => List.forall_mem_singleton.2 ⟨rfl, rfl⟩
  | .zpy _, _ | .aby _, _ | .izx _, _ | .izy _, _ => List.forall_mem_nil _

/-- DEC has the same forms (R176). -/
theorem decForms_run : ModeFormsRun decForms fun m => modifyByte m decValue decFlags
  | .zp _, _ | .zpx _, _ | .abs _, _ | .abx _, _ => List.forall_mem_singleton.2 ⟨rfl, rfl⟩
  | .zpy _, _ | .aby _, _ | .izx _, _ | .izy _, _ => List.forall_mem_nil _

/-- Settles O31: INC and DEC are the read-modify-write of their byte, which is the number of R175 and R176. -/
theorem memoryIncrements : Obligations.MemoryIncrements := by
  intro m s up down
  have hinc := modifyByte_eq m incValue incFlags s
  have hdec := modifyByte_eq m decValue decFlags s
  simp only [incFlags, decFlags, incValue_eq, decValue_eq] at hinc hdec
  exact ⟨incForms_run.readModifyWrite hinc, decForms_run.readModifyWrite hdec⟩

/-! ## The shifts -/

theorem aslFlags_eq (b : Byte) (p : Flags) :
    aslFlags b p = { p.setZN (BitVec.ofNat 8 (2 * b.toNat)) with c := decide (128 ≤ b.toNat) } := by
  rw [aslFlags, aslValue_eq, byte_bit7 b]

theorem rolFlags_eq (b : Byte) (p : Flags) :
    rolFlags b p = { p.setZN (BitVec.ofNat 8 (2 * b.toNat + p.c.toNat)) with c := decide (128 ≤ b.toNat) } := by
  rw [rolFlags, rolValue_eq, byte_bit7 b]

theorem lsrFlags_eq (b : Byte) (p : Flags) :
    lsrFlags b p = { p.setZN (BitVec.ofNat 8 (b.toNat / 2)) with c := decide (b.toNat % 2 = 1) } := by
  rw [lsrFlags, lsrValue_eq, byte_bit0]

theorem rorFlags_eq (b : Byte) (p : Flags) :
    rorFlags b p = { p.setZN (BitVec.ofNat 8 (b.toNat / 2 + 128 * p.c.toNat)) with c := decide (b.toNat % 2 = 1) } := by
  rw [rorFlags, rorValue_eq, byte_bit0]

/-- ASL on memory (R194). -/
theorem aslForms_run : ModeFormsRun aslForms fun m => modifyByte m aslValue aslFlags
  | .zp _, _ | .zpx _, _ | .abs _, _ | .abx _, _ => List.forall_mem_singleton.2 ⟨rfl, rfl⟩
  | .zpy _, _ | .aby _, _ | .izx _, _ | .izy _, _ => List.forall_mem_nil _

/-- ROL on memory (R196). -/
theorem rolForms_run : ModeFormsRun rolForms fun m => modifyByte m rolValue rolFlags
  | .zp _, _ | .zpx _, _ | .abs _, _ | .abx _, _ => List.forall_mem_singleton.2 ⟨rfl, rfl⟩
  | .zpy _, _ | .aby _, _ | .izx _, _ | .izy _, _ => List.forall_mem_nil _

/-- LSR on memory (R195). -/
theorem lsrForms_run : ModeFormsRun lsrForms fun m => modifyByte m lsrValue lsrFlags
  | .zp _, _ | .zpx _, _ | .abs _, _ | .abx _, _ => List.forall_mem_singleton.2 ⟨rfl, rfl⟩
  | .zpy _, _ | .aby _, _ | .izx _, _ | .izy _, _ => List.forall_mem_nil _

/-- ROR on memory (R197). -/
theorem rorForms_run : ModeFormsRun rorForms fun m => modifyByte m rorValue rorFlags
  | .zp _, _ | .zpx _, _ | .abs _, _ | .abx _, _ => List.forall_mem_singleton.2 ⟨rfl, rfl⟩
  | .zpy _, _ | .aby _, _ | .izx _, _ | .izy _, _ => List.forall_mem_nil _

/-- A shift of A is its dummy read with a new A (R194 to R197). -/
theorem exec_shiftsOfA (s : State) :
    exec .aslAcc s = .next (s.idle.retireWith 1 (aslValue s.a s.p) s.x s.y s.sp (aslFlags s.a s.p)) ∧
    exec .rolAcc s = .next (s.idle.retireWith 1 (rolValue s.a s.p) s.x s.y s.sp (rolFlags s.a s.p)) ∧
    exec .lsrAcc s = .next (s.idle.retireWith 1 (lsrValue s.a s.p) s.x s.y s.sp (lsrFlags s.a s.p)) ∧
    exec .rorAcc s = .next (s.idle.retireWith 1 (rorValue s.a s.p) s.x s.y s.sp (rorFlags s.a s.p)) :=
  ⟨rfl, rfl, rfl, rfl⟩

/-- Settles O35: on A and on memory the shift is one function of the old byte and C, the numbers of R194 and R196. -/
theorem leftShifts : Obligations.LeftShifts := by
  intro m s asl rol out
  obtain ⟨haslA, hrolA, _, _⟩ := exec_shiftsOfA s
  have hasl := modifyByte_eq m aslValue aslFlags s
  have hrol := modifyByte_eq m rolValue rolFlags s
  rw [aslValue_eq, aslFlags_eq] at haslA hasl
  rw [rolValue_eq, rolFlags_eq] at hrolA hrol
  exact ⟨implied_of_exec rfl haslA, aslForms_run.readModifyWrite hasl,
    implied_of_exec rfl hrolA, rolForms_run.readModifyWrite hrol⟩

/-- Settles O36: as the left shifts, with the numbers of R195 and R197. -/
theorem rightShifts : Obligations.RightShifts := by
  intro m s lsr ror out
  obtain ⟨_, _, hlsrA, hrorA⟩ := exec_shiftsOfA s
  have hlsr := modifyByte_eq m lsrValue lsrFlags s
  have hror := modifyByte_eq m rorValue rorFlags s
  rw [lsrValue_eq, lsrFlags_eq] at hlsrA hlsr
  rw [rorValue_eq, rorFlags_eq] at hrorA hror
  exact ⟨implied_of_exec rfl hlsrA, lsrForms_run.readModifyWrite hlsr,
    implied_of_exec rfl hrorA, rorForms_run.readModifyWrite hror⟩

/-! ## SLO, RLA and SRE -/

/-- The combinations have the modes of STA (R251 to R254, R257, R258). -/
theorem sloForms_run : ModeFormsRun sloForms shiftLeftOr
  | .zp _, _ | .zpx _, _ | .abs _, _ | .abx _, _ | .aby _, _ | .izx _, _ | .izy _, _ =>
    List.forall_mem_singleton.2 ⟨rfl, rfl⟩
  | .zpy _, _ => List.forall_mem_nil _

/-- RLA (R252). -/
theorem rlaForms_run : ModeFormsRun rlaForms rotateLeftAnd
  | .zp _, _ | .zpx _, _ | .abs _, _ | .abx _, _ | .aby _, _ | .izx _, _ | .izy _, _ =>
    List.forall_mem_singleton.2 ⟨rfl, rfl⟩
  | .zpy _, _ => List.forall_mem_nil _

/-- SRE (R253). -/
theorem sreForms_run : ModeFormsRun sreForms shiftRightEor
  | .zp _, _ | .zpx _, _ | .abs _, _ | .abx _, _ | .aby _, _ | .izx _, _ | .izy _, _ =>
    List.forall_mem_singleton.2 ⟨rfl, rfl⟩
  | .zpy _, _ => List.forall_mem_nil _

/-- Settles O45: each is the shift's read-modify-write with the new byte combined into A, whose flags keep the shift's C. -/
theorem shiftAndLogicCombinations : Obligations.ShiftAndLogicCombinations := by
  intro m s old asl rol lsr
  have hslo := shiftLeftOr_eq m s
  have hrla := rotateLeftAnd_eq m s
  have hsre := shiftRightEor_eq m s
  rw [aslValue_eq, aslFlags_eq] at hslo
  rw [rolValue_eq, rolFlags_eq] at hrla
  rw [lsrValue_eq, lsrFlags_eq] at hsre
  exact ⟨sloForms_run.readModifyWrite hslo, rlaForms_run.readModifyWrite hrla, sreForms_run.readModifyWrite hsre⟩

/-! ## RRA, DCP and ISC -/

/-- RRA (R254). -/
theorem rraForms_run : ModeFormsRun rraForms rotateRightAdd
  | .zp _, _ | .zpx _, _ | .abs _, _ | .abx _, _ | .aby _, _ | .izx _, _ | .izy _, _ =>
    List.forall_mem_singleton.2 ⟨rfl, rfl⟩
  | .zpy _, _ => List.forall_mem_nil _

/-- DCP (R257). -/
theorem dcpForms_run : ModeFormsRun dcpForms decrementCompare
  | .zp _, _ | .zpx _, _ | .abs _, _ | .abx _, _ | .aby _, _ | .izx _, _ | .izy _, _ =>
    List.forall_mem_singleton.2 ⟨rfl, rfl⟩
  | .zpy _, _ => List.forall_mem_nil _

/-- ISC (R258). -/
theorem iscForms_run : ModeFormsRun iscForms incrementSubtract
  | .zp _, _ | .zpx _, _ | .abs _, _ | .abx _, _ | .aby _, _ | .izx _, _ | .izy _, _ =>
    List.forall_mem_singleton.2 ⟨rfl, rfl⟩
  | .zpy _, _ => List.forall_mem_nil _

/-- The carry that RRA adds: the bit its rotation shifts out (R254). -/
theorem rorFlags_c_toNat (b : Byte) (p : Flags) : (rorFlags b p).c.toNat = b.toNat % 2 := by
  rw [rorFlags_eq]
  rcases Nat.mod_two_eq_zero_or_one b.toNat with h | h <;> simp [h]

/-- RRA's addition as numbers: the carry in is bit 0 of the old byte, and no flag of the rotation is left (R254). -/
theorem rotated_addResult_eq (a old : Byte) (p : Flags) (m : Byte) :
    addResult a m (rorFlags old p).c = BitVec.ofNat 8 (a.toNat + m.toNat + old.toNat % 2) := by
  rw [addResult, addSum, rorFlags_c_toNat]

theorem rotated_addFlags_eq (a old : Byte) (p : Flags) (m : Byte) :
    addFlags a m (rorFlags old p) = { p with
      c := decide (255 < a.toNat + m.toNat + old.toNat % 2)
      v := decide (a.toInt + m.toInt + (old.toNat % 2 : Nat) < -128 ∨ 127 < a.toInt + m.toInt + (old.toNat % 2 : Nat))
      z := decide (BitVec.ofNat 8 (a.toNat + m.toNat + old.toNat % 2) = 0)
      n := (BitVec.ofNat 8 (a.toNat + m.toNat + old.toNat % 2)).getLsbD 7 } := by
  rw [addFlags_eq, rotated_addResult_eq, rorFlags_c_toNat]
  rfl

/-- Settles O46: each is a read-modify-write followed by the addition, the compare or the subtraction of the byte it
stored, as ADC, CMP and SBC make it. -/
theorem arithmeticCombinations : Obligations.ArithmeticCombinations := by
  intro m s old ror sum added addedSigned dec inc borrow subbed subbedSigned
  have hrra := rotateRightAdd_eq m s
  have hdcp := decrementCompare_eq m s
  have hisc := incrementSubtract_eq m s
  rw [rotated_addResult_eq, rotated_addFlags_eq, rorValue_eq] at hrra
  rw [decValue_eq] at hdcp
  rw [subFlags_eq, subResult_eq, incValue_eq] at hisc
  exact ⟨rraForms_run.readModifyWrite hrra, dcpForms_run.readModifyWrite hdcp, iscForms_run.readModifyWrite hisc⟩

end Sys2Proof.Machine
end

section
/-! SUPPORT. The flag instructions and NOPs (R230 to R237, R264), the instructions that pull (R162, R163, R239) and the unstable
opcodes' meanings (R266 to R271). -/

namespace Sys2Proof.Machine

/-! ## Flag instructions and NOPs -/

/-- CLC, SEC, CLD, SED and CLV keep every register and all flags but one. -/
theorem exec_flagInstructions (s : State) :
    exec .clc s = .next (s.idle.retireWith 1 s.a s.x s.y s.sp { s.p with c := false }) ∧
    exec .sec s = .next (s.idle.retireWith 1 s.a s.x s.y s.sp { s.p with c := true }) ∧
    exec .cld s = .next (s.idle.retireWith 1 s.a s.x s.y s.sp { s.p with d := false }) ∧
    exec .sed s = .next (s.idle.retireWith 1 s.a s.x s.y s.sp { s.p with d := true }) ∧
    exec .clv s = .next (s.idle.retireWith 1 s.a s.x s.y s.sp { s.p with v := false }) := ⟨rfl, rfl, rfl, rfl, rfl⟩

/-- The seven one-byte NOPs run alike (R237, R264). -/
theorem nopForms_run (s : State) : ∀ f ∈ nopForms,
    encode f.2 = [f.1] ∧ exec f.2 s = .next (s.idle.retireWith 1 s.a s.x s.y s.sp s.p) := by
  simp only [nopForms, List.forall_mem_cons]
  refine ⟨?nop1A, ?nop3A, ?nop5A, ?nop7A, ?nopDA, ?nop, ?nopFA, List.forall_mem_nil _⟩ <;> exact ⟨rfl, rfl⟩

/-- Settles O41: each is its dummy read with at most one new flag. -/
theorem flagInstructionsAndNops : Obligations.FlagInstructionsAndNops := by
  intro s
  obtain ⟨hclc, hsec, hcld, hsed, hclv⟩ := exec_flagInstructions s
  refine ⟨implied_of_exec rfl hclc, implied_of_exec rfl hsec, implied_of_exec rfl hcld, implied_of_exec rfl hsed,
    implied_of_exec rfl hclv, fun f hf => ?_⟩
  obtain ⟨hencode, hexec⟩ := nopForms_run s f hf
  exact implied_of_exec hencode hexec

/-- CLI and SEI end as the other flag instructions do, but for `i_poll`, which takes the old I (R42). -/
theorem setInterruptDisable_impliedOnly (b : Bool) (s : State) : ImpliedOnly s (setInterruptDisable b s) where
  noStore := setInterruptDisable_noStore b s
  traffic := ⟨rfl, rfl, rfl⟩

/-- Settles O42. -/
theorem interruptDisableInstructions : Obligations.InterruptDisableInstructions := fun s =>
  ⟨⟨rfl, _, rfl, rfl, rfl, setInterruptDisable_impliedOnly false s, ⟨rfl, rfl, rfl, rfl⟩, rfl⟩,
    ⟨rfl, _, rfl, rfl, rfl, setInterruptDisable_impliedOnly true s, ⟨rfl, rfl, rfl, rfl⟩, rfl⟩⟩

/-- The undocumented NOPs with an operand: five immediates and the reads of X-indexed places and page zero (R264). -/
theorem nopReadForms_run : FormsRun nopReadForms readAndDiscard := by
  intro o s
  cases o with
  | imm n =>
    simp only [nopReadForms, List.forall_mem_cons]
    refine ⟨?_, ?_, ?_, ?_, ?_, List.forall_mem_nil _⟩ <;> exact ⟨rfl, rfl⟩
  | mem m =>
    cases m with
    | zp z =>
      simp only [nopReadForms, List.forall_mem_cons]
      refine ⟨?_, ?_, ?_, List.forall_mem_nil _⟩ <;> exact ⟨rfl, rfl⟩
    | zpx z =>
      simp only [nopReadForms, List.forall_mem_cons]
      refine ⟨?_, ?_, ?_, ?_, ?_, ?_, List.forall_mem_nil _⟩ <;> exact ⟨rfl, rfl⟩
    | abs w => exact List.forall_mem_singleton.2 ⟨rfl, rfl⟩
    | abx w =>
      simp only [nopReadForms, List.forall_mem_cons]
      refine ⟨?_, ?_, ?_, ?_, ?_, ?_, List.forall_mem_nil _⟩ <;> exact ⟨rfl, rfl⟩
    | zpy _ | aby _ | izx _ | izy _ => exact List.forall_mem_nil _

/-- Settles O49: each form reads its operand and keeps every register and flag. -/
theorem readingNops : Obligations.ReadingNops := fun o s => nopReadForms_run.readOnly (readAndDiscard_eq o s)

/-! ## Pulls -/

/-- One pull after the dummy reads of `pc + 1` and of the stack, as read cycles (R376). -/
theorem pull_eq_readCycles (s : State) : s.idle.stackIdle.pulled =
    { s.readCycles [s.pc + 1, stackAddress s.sp, stackAddress (s.sp + 1)] with sp := s.sp + 1 } := rfl

theorem pullValue_of_byteAt {s : State} {v : Byte} (h : s.byteAt (stackAddress (s.sp + 1)) = some v) :
    s.pullValue = v := busRead_of_byteAt h

/-- PLP is the pull's read cycles and the step past it, with the pulled flags; the IRQ gate keeps the old I (R42, R163). -/
theorem pullFlags_eq_jumpAfter (s : State) : pullFlags s =
    { s.jumpAfter [s.pc + 1, stackAddress s.sp, stackAddress (s.sp + 1)] (s.sp + 1) (s.pc + 1) with
      p := Flags.unpack s.idle.stackIdle.pullValue } := by
  simp only [pullFlags, State.jumpAfter, pull_eq_readCycles]
  rw [readCycles_eq]
  rfl

/-- Settles O27: both make the same read cycles; the byte above S is what the pull returns. -/
theorem pulls : Obligations.Pulls := by
  intro s v hv
  have hvalue : s.idle.stackIdle.pullValue = v := pullValue_of_byteAt hv
  have hpla : exec .pla s = .next (pullA s) := rfl
  have hplp : exec .plp s = .next (pullFlags s) := rfl
  rw [pullA_eq, hvalue, pull_eq_readCycles] at hpla
  rw [pullFlags_eq_jumpAfter, hvalue] at hplp
  obtain ⟨hiPoll, _, hregisters, hnoStore, htraffic⟩ :=
    jumpAfter_frame s [s.pc + 1, stackAddress s.sp, stackAddress (s.sp + 1)] (s.sp + 1) (s.pc + 1)
  have hreads := pull_noStore s
  rw [pull_eq_readCycles] at hreads
  exact ⟨⟨rfl, _, hpla, retireWith_retired (by rw [readCycles_eq]), retireWith_noStore hreads, ⟨rfl, rfl, rfl⟩,
      retireWith_registers, retireWith_p⟩,
    rfl, _, hplp, rfl, hiPoll, ⟨hnoStore.memory, { hnoStore.devices with }, { hnoStore.pins with }⟩,
      { htraffic with }, { hregisters with }, rfl⟩

/-- RTI is its two dummy reads, its three pulls and a jump, with the pulled flags (R239, R376). -/
theorem returnFromInterrupt_eq_jumpAfter (s : State) : s.idle.stackIdle.returnFromInterrupt =
    { s.jumpAfter [s.pc + 1, stackAddress s.sp, stackAddress (s.sp + 1), stackAddress (s.sp + 2), stackAddress (s.sp + 3)]
        (s.sp + 3) s.idle.stackIdle.pulled.pulledWord with
      p := Flags.unpack s.idle.stackIdle.pullValue
      iPoll := (Flags.unpack s.idle.stackIdle.pullValue).i } := by
  have hpulls := pulled_pulled_eq s.idle.stackIdle.pulled
  rw [pulled_sp, stackIdle_sp, idle_sp, show s.sp + 1 + 1 = s.sp + 2 from byte_add_one_one s.sp,
    show s.sp + 1 + 2 = s.sp + 3 by rw [BitVec.add_assoc]; rfl] at hpulls
  simp only [State.returnFromInterrupt, hpulls]
  rfl

/-- Settles O44. (The name `returnFromInterrupt` is the model's function.) -/
theorem returnFromInterrupt_completes : Obligations.ReturnFromInterrupt := by
  intro s v lo hi hv hlo hhi
  have hvalue : s.idle.stackIdle.pullValue = v := pullValue_of_byteAt hv
  have hword : s.idle.stackIdle.pulled.pulledWord = wordOf lo hi :=
    pulledWord_of_byteAt (by simpa using hlo) (by
      rw [pulled_byteAt, pulled_sp]
      exact (congrArg (fun p => s.byteAt (stackAddress p)) (BitVec.add_assoc s.sp 1 2)).trans hhi)
  have hexec : exec .rti s = .next s.idle.stackIdle.returnFromInterrupt := rfl
  rw [returnFromInterrupt_eq_jumpAfter, hvalue, hword] at hexec
  obtain ⟨_, _, hregisters, hnoStore, htraffic⟩ := jumpAfter_frame s [s.pc + 1, stackAddress s.sp,
    stackAddress (s.sp + 1), stackAddress (s.sp + 2), stackAddress (s.sp + 3)] (s.sp + 3) (wordOf lo hi)
  exact ⟨rfl, _, hexec, rfl, rfl, rfl, { hregisters with },
    ⟨hnoStore.memory, { hnoStore.devices with }, { hnoStore.pins with }⟩, { htraffic with }⟩

/-! ## The unstable opcodes -/

/-- Settles O50: each draws one byte and leaves it in its registers. -/
theorem unstableRegisterOpcodes : Obligations.UnstableRegisterOpcodes := by
  intro n s v
  have hane : exec (.aneImm n) s = .next (unstableA n s) := rfl
  have hlxa : exec (.lxaImm n) s = .next (unstableAX n s) := rfl
  rw [unstableA_eq] at hane
  rw [unstableAX_eq] at hlxa
  exact ⟨⟨rfl, _, hane, retireWith_retired (drawn_pc s), retireWith_noStore (drawn_noStore s), retireWith_traffic,
      retireWith_registers, retireWith_p⟩,
    rfl, _, hlxa, retireWith_retired (drawn_pc s), retireWith_noStore (drawn_noStore s), retireWith_traffic,
      retireWith_registers, retireWith_p⟩

/-- SHA has two forms (R268). -/
theorem shaForms_run : ModeFormsRun shaForms unstableStore
  | .aby _, _ | .izy _, _ => List.forall_mem_singleton.2 ⟨rfl, rfl⟩
  | .zp _, _ | .zpx _, _ | .zpy _, _ | .abs _, _ | .abx _, _ | .izx _, _ => List.forall_mem_nil _

/-- SHX has the one form `abs,Y` (R269). -/
theorem shxForms_run : ModeFormsRun shxForms unstableStore
  | .aby _, _ => List.forall_mem_singleton.2 ⟨rfl, rfl⟩
  | .zp _, _ | .zpx _, _ | .zpy _, _ | .abs _, _ | .abx _, _ | .izx _, _ | .izy _, _ => List.forall_mem_nil _

/-- SHY has the one form `abs,X` (R270). -/
theorem shyForms_run : ModeFormsRun shyForms unstableStore
  | .abx _, _ => List.forall_mem_singleton.2 ⟨rfl, rfl⟩
  | .zp _, _ | .zpx _, _ | .zpy _, _ | .abs _, _ | .aby _, _ | .izx _, _ | .izy _, _ => List.forall_mem_nil _

/-- TAS has the one form `abs,Y` (R271). -/
theorem tasForms_run : ModeFormsRun tasForms unstableStackStore
  | .aby _, _ => List.forall_mem_singleton.2 ⟨rfl, rfl⟩
  | .zp _, _ | .zpx _, _ | .zpy _, _ | .abs _, _ | .abx _, _ | .izx _, _ | .izy _, _ => List.forall_mem_nil _

/-- The frame of the unstable stores, whatever the byte and, on a page cross, the high byte of its address (log 29). -/
theorem unstableStore_frame (m : Mode) (s : State) : ∃ w v, Retired m.length s (unstableStore m s) ∧
    (s.pageCross m = false → w = s.ea m) ∧ loByte w = loByte (s.ea m) ∧ StoredByte w v s (unstableStore m s) ∧
    (unstableStore m s).cart = s.cart ∧ SamePins s (unstableStore m s) ∧ (unstableStore m s).p = s.p ∧
    (unstableStore m s).bus = .write w v :: (s.addressed m .write).bus ∧
    Registers s.a s.x s.y s.sp (unstableStore m s) := by
  obtain ⟨hpins, hcart⟩ := unstableStore_samePins m s
  obtain ⟨w, v, i, d, hea, hlo, heq⟩ := unstableStore_exists_eq m s
  have hstored := writeCycle_storedByte (s.addressed m .write) w v
  refine ⟨w, v, ?retired, hea, hlo, ?stored, hcart, hpins, ?flags, ?bus, ?registers⟩ <;> rw [heq]
  case retired => exact retireWith_retired (addressed_pc s m .write)
  case stored =>
    rw [addressed_eq] at hstored ⊢
    exact retireWith_storedByte ⟨hstored.there, hstored.others⟩
  case flags => exact retireWith_p
  case bus => rfl
  case registers => exact retireWith_registers

/-- The forms of SHA, SHX and SHY run as the one store (R268 to R270). -/
theorem unstableForms_run : ModeFormsRun (fun m => shaForms m ++ shxForms m ++ shyForms m) unstableStore := by
  intro m s f hf
  rw [List.mem_append, List.mem_append] at hf
  rcases hf with (hsha | hshx) | hshy
  · exact shaForms_run m s f hsha
  · exact shxForms_run m s f hshx
  · exact shyForms_run m s f hshy

/-- RAM answers for page zero, so a draw before an access moves no address of it (R67). -/
theorem drawn_base (m : Mode) (s : State) : s.drawn.base m = s.base m := by
  cases m with
  | izx z | izy z => simp [State.base, State.pointerAt]
  | _ => rfl

theorem drawn_ea (m : Mode) (s : State) : s.drawn.ea m = s.ea m := congrArg (· + zext16 (s.index m)) (drawn_base m s)

theorem drawn_pageCross (m : Mode) (s : State) : s.drawn.pageCross m = s.pageCross m := by
  rw [State.pageCross, drawn_ea, drawn_base]
  rfl

theorem drawn_addressed_write_bus (m : Mode) (s : State) :
    (s.drawn.addressed m .write).bus = (s.addressed m .write).bus := by
  have hindexed : s.drawn.indexedReads m = s.indexedReads m := by
    rw [State.indexedReads, State.uncarried, drawn_base]
    rfl
  have hpointer : s.drawn.pointerReads m = s.pointerReads m := by cases m <;> rfl
  rw [addressed_write_bus, addressed_write_bus, hindexed, hpointer, drawn_bus]

/-- Settles O51: the stores share one frame, and TAS is the store after a draw, whose byte goes to S. -/
theorem unstableStores : Obligations.UnstableStores := by
  intro m s
  refine ⟨fun f hf => ?store, fun f hf => ?tas⟩
  case store =>
    obtain ⟨hencode, hexec⟩ := unstableForms_run m s f hf
    obtain ⟨w, v, hframe⟩ := unstableStore_frame m s
    exact ⟨hencode, _, w, v, hexec, hframe⟩
  case tas =>
    obtain ⟨hencode, hexec⟩ := tasForms_run m s f hf
    obtain ⟨w, v, hretired, hea, hlo, hstored, hcart, hpins, hflags, hbus, hregisters⟩ := unstableStore_frame m s.drawn
    rw [drawn_addressed_write_bus] at hbus
    rw [drawn_ea] at hea hlo
    rw [drawn_pageCross] at hea
    rw [unstableStackStore_eq] at hexec
    exact ⟨hencode, _, w, v, hexec, { hretired with }, hea, hlo, ⟨hstored.there, hstored.others⟩, hcart,
      { hpins with }, hflags, hbus, { hregisters with sp := rfl }⟩

end Sys2Proof.Machine
end

section
/-! SUPPORT. Entries, the reset sequence and the jam as steps (R238, R276, R308, R310, R314, R320, R351), and what a return
finds after an entry or a call (R222, R313). -/

namespace Sys2Proof.Machine

/-! ## Interrupt entries -/

/-- Every vector lies in the cartridge's addresses (R66). -/
theorem vectorFor_high (s : State) {v : Word} (hv : v = nmiVector ∨ v = irqVector) :
    0x4020 ≤ (s.vectorFor v).toNat ∧ 0x4020 ≤ (s.vectorFor v + 1).toNat := by
  have hvector : s.vectorFor v = nmiVector ∨ s.vectorFor v = irqVector := by
    unfold State.vectorFor
    split
    · exact .inl rfl
    · exact hv
  rcases hvector with h | h <;> rw [h] <;> decide

/-- Settles O43: BRK is the entry after its read of the padding byte. -/
theorem breakEntersHandler : Obligations.BreakEntersHandler := fun s =>
  ⟨rfl, _, rfl, enter_entered s s.idle (s.pc + 2) true irqVector [.read (s.pc + 1)] rfl (vectorFor_high _ (.inr rfl))⟩

/-- An NMI or IRQ entry after the fall of /NMI inside the step is latched (R314, log 11). -/
theorem latchNmi_interrupt_entered (e : State) {v : Word} (hv : v = nmiVector ∨ v = irqVector) :
    Entered e.pc false (e.latchNmi.vectorFor v) [.read e.pc, .read e.pc] e (e.latchNmi.interrupt v) :=
  enter_entered e ((e.latchNmi.readCycle e.pc).readCycle e.pc) e.pc false v [.read e.pc, .read e.pc] rfl
    (vectorFor_high _ hv)

theorem latchNmi_interrupt_nmiMid (e : State) (v : Word) : (e.latchNmi.interrupt v).nmiMid = false := by
  rw [State.interrupt, enter_nmiMid]
  rfl

/-- An NMI entry reads the NMI vector whether or not a further fall of /NMI is latched (R310). -/
theorem vectorFor_nmiVector (s : State) : s.vectorFor nmiVector = nmiVector := ite_self _

/-- Settles O53: the boundary finds nothing before the NMI, so the step is its entry. -/
theorem nmiEntry : Obligations.NmiEntry := by
  intro s hrst hmid hreset hjam hnmi
  have hstep : step s = .next (s.environment.latchNmi.interrupt nmiVector) := by
    simp [step_of_uncut hmid, State.boundary, hrst, hreset, hjam, hnmi, -environment_jammed]
  have hentered := latchNmi_interrupt_entered s.environment (.inl rfl)
  rw [vectorFor_nmiVector] at hentered
  exact ⟨_, hstep, latchNmi_interrupt_nmiMid .., hentered⟩

/-- Settles O54: the boundary finds nothing before the IRQ gate, which chooses between the entry and an instruction. -/
theorem irqEntry : Obligations.IrqEntry := by
  intro s hrst hmid hreset hjam hnmi
  refine ⟨fun hirq hpoll => ?entry, fun hgate => ?instruction⟩
  case entry =>
    have hstep : step s = .next (s.environment.latchNmi.interrupt irqVector) := by
      simp [step_of_uncut hmid, State.boundary, hrst, hreset, hjam, hnmi, hirq, hpoll, -environment_jammed,
        -environment_iPoll]
    have hentered := latchNmi_interrupt_entered s.environment (.inr rfl)
    have hvector : s.environment.latchNmi.vectorFor irqVector = if s.environment.nmiMid then 0xFFFA else 0xFFFE := by
      simp [State.vectorFor, State.latchNmi, hnmi, nmiVector, irqVector]
    rw [hvector] at hentered
    exact ⟨_, hstep, latchNmi_interrupt_nmiMid .., hentered⟩
  case instruction =>
    have hbusy : s.environment.busy = false := by
      rcases hgate with h | h <;>
        simp [State.busy, hrst, hmid, hreset, hjam, hnmi, h, -environment_jammed, -environment_iPoll]
    rw [step_of_not_busy hbusy, runInstruction_eq]
    rfl

/-! ## The reset sequence -/

theorem resetSequence_byteAt (s : State) (a : Word) : s.resetSequence.byteAt a = s.byteAt a :=
  byteAt_congr (resetSequence_mem s) (resetSequence_cart s) a

/-- PC after the reset sequence, where storage answers at the reset vector (R66, R351). -/
theorem resetSequence_pc {s : State} {lo hi : Byte} (hlo : s.byteAt resetVector = some lo)
    (hhi : s.byteAt (resetVector + 1) = some hi) : s.resetSequence.pc = wordOf lo hi := by
  unfold State.resetSequence
  exact loadVector_pc ((byteAt_congr (s := s) (by simp) (by simp) _).trans hlo)
    ((byteAt_congr (s := s) (by simp) (by simp) _).trans hhi)

/-- Settles O55: the boundary finds a due reset before all else. -/
theorem resetSequence_completes : Obligations.ResetSequence := by
  intro s hrst hmid hreset e
  have hstep : step s = .next e.resetSequence := by
    simp [step_of_uncut hmid, State.boundary, hrst, hreset, e]
  exact ⟨_, hstep, ⟨resetSequence_a e, resetSequence_x e, resetSequence_y e, resetSequence_sp e⟩, resetSequence_p e,
    resetSequence_iPoll e, resetSequence_nmiPending e, resetSequence_jammed e, resetSequence_resetPending e,
    fun _ _ => resetSequence_pc, resetSequence_byteAt e, resetSequence_mem e, resetSequence_cart e,
    resetSequence_irqLine e, resetSequence_nmiLine e, (resetSequence_rstLine e).trans hrst, resetSequence_schedule e,
    resetSequence_bus e⟩

/-! ## The jam -/

/-- The twelve JAM opcodes run alike (R276). -/
theorem jamForms_run (s : State) : ∀ f ∈ jamForms, encode f.2 = [f.1] ∧ exec f.2 s = .next (jam s) := by
  simp only [jamForms, List.forall_mem_cons]
  refine ⟨?_, ?_, ?_, ?_, ?_, ?_, ?_, ?_, ?_, ?_, ?_, ?_, List.forall_mem_nil _⟩ <;> exact ⟨rfl, rfl⟩

theorem cyclesTo_of_bus_eq {s t : State} (h : t.bus = s.bus) : s.cyclesTo t = [] := by
  rw [State.cyclesTo, h, Nat.sub_self]
  rfl

/-- Where the boundary only latches a fall of /NMI, no bus cycle is made, and wherever /RST falls in the step it leaves the
registers, memory and devices as they are (R305, R314). -/
theorem boundaryOrCut_of_idle {e : State}
    (h : ∀ mid, { e with rstMid := mid }.boundary = .next { e with rstMid := mid }.latchNmi) :
    e.boundaryOrCut = .next { e.latchNmi with rstLine := e.rstLine && e.rstMid.isNone, rstMid := none } := by
  unfold State.boundaryOrCut
  cases hmid : e.rstMid with
  | none =>
    have hsame : { e.latchNmi with rstLine := e.rstLine && true, rstMid := none } = e.latchNmi := by
      rw [Bool.and_true, ← hmid]
      rfl
    exact (h e.rstMid).trans (congrArg Host.Outcome.next hsame.symm)
  | some k =>
    have hcut : { e with rstMid := none }.cutAfter k { e with rstMid := none }.latchNmi =
        { e.latchNmi with rstLine := false, rstMid := none } :=
      if_pos ((congrArg List.length (cyclesTo_of_bus_eq rfl)).trans_le (Nat.zero_le k))
    simp only [h none, hcut, Option.isNone_some, Bool.and_false]

theorem boundary_of_jammed {e : State} (hjam : e.jammed = true) (hreset : e.resetPending = false) :
    e.boundary = .next e.latchNmi := by
  simp [State.boundary, hjam, hreset]

/-- Settles O52. -/
theorem jamLocksUntilReset : Obligations.JamLocksUntilReset := by
  refine ⟨fun f hf s => ?opcodes, fun s hjam hreset => ?steps⟩
  case opcodes =>
    obtain ⟨hencode, hexec⟩ := jamForms_run s f hf
    exact ⟨hencode, jam s, hexec, rfl, rfl⟩
  case steps =>
    have hstep := boundaryOrCut_of_idle fun mid =>
      boundary_of_jammed (e := { s.environment with rstMid := mid }) hjam hreset
    exact ⟨_, hstep, hjam, ⟨environment_a s, environment_x s, environment_y s, environment_sp s⟩, environment_p s,
      environment_pc s, environment_iPoll s, environment_byteAt s,
      ⟨environment_cart s, environment_apu s, environment_outLatch s⟩,
      ⟨environment_bus s, environment_inputs s, environment_draws s⟩⟩

/-! ## Returning -/

/-- The frame of an interrupt on the stack, at and below S (R310). -/
theorem pushFrame_stack (s : State) (ret : Word) (b : Bool) :
    (s.pushFrame ret b).byteAt (stackAddress s.sp) = some (hiByte ret) ∧
    (s.pushFrame ret b).byteAt (stackAddress (s.sp - 1)) = some (loByte ret) ∧
    (s.pushFrame ret b).byteAt (stackAddress (s.sp - 2)) = some (s.p.pack b) := by
  have hlow : s.sp - 1 ≠ s.sp - 2 := by bv_omega
  have hhigh1 : s.sp ≠ s.sp - 1 := by bv_omega
  have hhigh2 : s.sp ≠ s.sp - 2 := by bv_omega
  simp only [pushFrame_byteAt, stackAddress_target_inj, if_true, if_neg hlow, if_neg hhigh1, if_neg hhigh2, and_self]

/-- Settles O58: the entry left the flags, the low and the high byte of PC above the S it set, and RTI pulls them. -/
theorem interruptThenReturnResumes : Obligations.InterruptThenReturnResumes := by
  intro s u vec hsp hstack
  have hsp' : u.sp = s.sp - 3 := hsp.trans (enter_sp _ _ _ _)
  have hframe (k : Byte) (hk : k ∈ [(1 : Byte), 2, 3]) : u.byteAt (stackAddress (u.sp + k)) =
      (((s.readCycle s.pc).readCycle s.pc).pushFrame s.pc false).byteAt (stackAddress (s.sp - 3 + k)) := by
    rw [hstack k hk, State.interrupt, enter_byteAt, hsp']
  obtain ⟨hhigh, hlow, hstatus⟩ := pushFrame_stack ((s.readCycle s.pc).readCycle s.pc) s.pc false
  obtain ⟨_, r, hexec, hpc, hflags, hiPoll, hregisters, hnoStore, _⟩ := returnFromInterrupt_completes u (s.p.pack false)
    (loByte s.pc) (hiByte s.pc)
    ((hframe 1 (by decide)).trans (by rw [show s.sp - 3 + 1 = s.sp - 2 from byte_sub_three_add_one _]; exact hstatus))
    ((hframe 2 (by decide)).trans (by rw [show s.sp - 3 + 2 = s.sp - 1 from byte_sub_three_add_two _]; exact hlow))
    ((hframe 3 (by decide)).trans (by rw [show s.sp - 3 + 3 = s.sp from byte_sub_three_add_three _]; exact hhigh))
  have hunpack := unpack_pack s.p false
  refine ⟨r, hexec, hpc.trans (wordOf_loByte_hiByte s.pc), hflags.trans hunpack,
    hiPoll.trans (congrArg Flags.i hunpack), ?_, hnoStore.memory⟩
  rw [hsp', show s.sp - 3 + 3 = s.sp from byte_sub_three_add_three _] at hregisters
  exact hregisters

/-- Settles O59: JSR left the low and the high byte of `pc + 2` above the S it set; RTS pulls them and jumps behind. -/
theorem callThenReturnResumes : Obligations.CallThenReturnResumes := by
  intro s t u w hcall hsp hstack
  obtain ⟨_, t', hexec', hhigh, hlow, _, _, hregisters', _⟩ := jumpToSubroutine w s
  obtain rfl : t' = t := Host.Outcome.next.inj (hexec'.symm.trans hcall)
  have hsp' : u.sp = s.sp - 2 := hsp.trans hregisters'.sp
  have hlo : u.byteAt (stackAddress (u.sp + 1)) = some (loByte (s.pc + 2)) := by
    rw [hstack 1 (by decide), hsp', show s.sp - 2 + 1 = s.sp - 1 from byte_sub_two_add_one _]
    exact hlow
  have hhi : u.byteAt (stackAddress (u.sp + 2)) = some (hiByte (s.pc + 2)) := by
    rw [hstack 2 (by decide), hsp', show s.sp - 2 + 2 = s.sp from byte_sub_two_add_two _]
    exact hhigh
  obtain ⟨_, r, hexec, hpc, hregisters, hflags, _, hnoStore, _⟩ := returnFromSubroutine_completes u _ _ hlo hhi
  have htarget : r.pc = s.pc + 3 := by
    apply BitVec.eq_of_toNat_eq
    rw [hpc, ← wordOf_toNat, wordOf_loByte_hiByte]
    bv_omega
  rw [hsp', show s.sp - 2 + 2 = s.sp from byte_sub_two_add_two _] at hregisters
  exact ⟨r, hexec, htarget, hflags, hregisters, hnoStore.memory⟩

/-! ## CLI; SEI with /IRQ low -/

/-- A low /IRQ, and no other event due or to come. -/
structure State.OnlyIrqLow (s : State) : Prop where
  schedule : s.schedule = []
  rstLine : s.rstLine = true
  rstMid : s.rstMid = none
  resetPending : s.resetPending = false
  jammed : s.jammed = false
  nmiPending : s.nmiPending = false
  nmiMid : s.nmiMid = false
  irqLine : s.irqLine = false

theorem State.OnlyIrqLow.of_samePins {s t : State} (h : s.OnlyIrqLow) (hpins : SamePins s t) : t.OnlyIrqLow where
  schedule := hpins.schedule.trans h.schedule
  rstLine := hpins.rstLine.trans h.rstLine
  rstMid := hpins.rstMid.trans h.rstMid
  resetPending := hpins.resetPending.trans h.resetPending
  jammed := hpins.jammed.trans h.jammed
  nmiPending := hpins.nmiPending.trans h.nmiPending
  nmiMid := hpins.nmiMid.trans h.nmiMid
  irqLine := hpins.irqLine.trans h.irqLine

/-- With the gate shut, the stored one-byte instruction runs (R306, R320). -/
theorem step_of_shut_gate {s : State} {op : Byte} {i : Instr} (h : s.OnlyIrqLow) (hpoll : s.iPoll = true)
    (hop : s.byteAt s.pc = some op) (hshape : opcodeShape op = .plain i) (hstable : op ∉ unstableOpcodes) :
    step s = exec i (s.readCycle s.pc) := by
  have hread := busRead_of_byteAt hop
  have hbusy : s.environment.busy = false := by
    simp [environment_nil h.schedule, State.busy, h.rstLine, h.rstMid, h.resetPending, h.jammed, h.nmiPending, hpoll]
  rw [step_of_not_busy hbusy, environment_nil h.schedule, latchNmi_of_not_mid h.nmiMid,
    runInstruction_of_stable (by rw [hread]; exact hstable), fetch_plain (by rw [hread]; exact hshape)]

/-- With the gate open, the IRQ is taken (R306, R310). -/
theorem step_of_open_gate {s : State} (h : s.OnlyIrqLow) (hpoll : s.iPoll = false) :
    ∃ t, step s = .next t ∧ Entered s.pc false 0xFFFE [.read s.pc, .read s.pc] s t := by
  have hentry := irqEntry s
  rw [environment_nil h.schedule] at hentry
  obtain ⟨t, hstep, _, hentered⟩ :=
    (hentry h.rstLine h.rstMid h.resetPending h.jammed h.nmiPending).1 h.irqLine hpoll
  rw [h.nmiMid] at hentered
  exact ⟨t, hstep, hentered⟩

/-- With the gate shut, a stored CLI or SEI writes I and leaves the gate at the old I (R232, R233, R42). -/
theorem step_setInterruptDisable {s : State} {op : Byte} {i : Instr} {b : Bool} (h : s.OnlyIrqLow) (hpoll : s.iPoll = true)
    (hop : s.byteAt s.pc = some op) (hshape : opcodeShape op = .plain i) (hstable : op ∉ unstableOpcodes)
    (hexec : ∀ s, exec i s = .next (setInterruptDisable b s)) :
    ∃ t, step s = .next t ∧ t.OnlyIrqLow ∧ t.pc = s.pc + 1 ∧ t.sp = s.sp ∧ t.iPoll = s.p.i ∧
      t.p = { s.p with i := b } ∧ SameMemory s t := by
  have hnoStore := setInterruptDisable_noStore b (s.readCycle s.pc)
  have hpins := hnoStore.pins
  exact ⟨_, (step_of_shut_gate h hpoll hop hshape hstable).trans (hexec _), h.of_samePins { hpins with }, rfl, rfl, rfl,
    rfl, hnoStore.memory⟩

/-- Settles O60: CLI leaves the gate at the old I = 1, so SEI runs; SEI leaves it at I = 0, so the IRQ is taken. -/
theorem cliSeiAdmitsOneIrq : Obligations.CliSeiAdmitsOneIrq := by
  intro s hschedule hrst hmid hreset hjam hnmi hnmiMid hirq hi hpoll hcli hsei
  have hs : s.OnlyIrqLow := ⟨hschedule, hrst, hmid, hreset, hjam, hnmi, hnmiMid, hirq⟩
  obtain ⟨t, hstepS, ht, htpc, htsp, htpoll, htflags, htmemory⟩ :=
    step_setInterruptDisable hs hpoll hcli rfl (by decide) fun _ => rfl
  obtain ⟨u, hstepT, hu, hupc, husp, hupoll, huflags, humemory⟩ :=
    step_setInterruptDisable ht (htpoll.trans hi) (by rw [htpc, htmemory]; exact hsei) rfl (by decide) fun _ => rfl
  have hti : t.p.i = false := by rw [htflags]
  have hpc : u.pc = s.pc + 2 := by rw [hupc, htpc]; exact word_add_one_one s.pc
  have hflags : u.p = s.p := by rw [huflags, htflags, ← hi]
  obtain ⟨v, hstepU, hentered⟩ := step_of_open_gate hu (hupoll.trans hti)
  have hstatus := hentered.status
  rw [hpc] at hentered
  rw [husp, htsp, hflags] at hstatus
  exact ⟨t, u, v, hstepS, hstepT, hstepU, htpc, hti, hpc, hflags, fun a => (humemory a).trans (htmemory a), hentered,
    hstatus, hentered.iPoll⟩

end Sys2Proof.Machine
end

section
/-! SUPPORT. The pins (R40, R41, R44, R303 to R305, R350) and a step cut by a fall of /RST (R351, log 12). -/

namespace Sys2Proof.Machine

/-! ## The hold -/

theorem boundary_of_held {e : State} (hrst : e.rstLine = false) : e.boundary = .next e.latchNmi := by
  simp [State.boundary, hrst]

/-- While /RST is low a step only latches a fall of /NMI (R44, log 13). -/
theorem step_of_held {s : State} (hrst : s.environment.rstLine = false) :
    step s = .next { s.environment.latchNmi with rstLine := false, rstMid := none } := by
  rw [step, boundaryOrCut_of_idle fun mid => boundary_of_held (e := { s.environment with rstMid := mid }) hrst, hrst,
    Bool.false_and]

/-! ## The cut -/

/-- A fall of /RST inside a step cuts what the step would have led to. -/
theorem step_of_cut {s u : State} {k : Nat} (hmid : s.environment.rstMid = some k)
    (hwhole : { s.environment with rstMid := none }.boundary = .next u) :
    step s = .next ({ s.environment with rstMid := none }.cutAfter k u) := by
  simp only [step, State.boundaryOrCut, hmid, hwhole]

/-- An opcode that would be refused is refused unless /RST falls before its fetch (R250, log 12). -/
theorem step_of_cut_refused {s : State} {k : Nat} {r : Refusal} (hmid : s.environment.rstMid = some k)
    (hwhole : { s.environment with rstMid := none }.boundary = .refused r) :
    step s = if k = 0 then .next { s.environment.latchNmi with rstLine := false, rstMid := none } else .refused r := by
  simp only [step, State.boundaryOrCut, hmid, hwhole]

/-- Of the flags a cut leaves all but C, except in an RTI, which may have pulled them (R351, log 12). -/
theorem flagsAfter_but_c {e : State} (k : Nat) (u : State) (h : e.entering = true ∨ e.busRead e.pc ≠ 0x40) :
    { e.flagsAfter k u with c := e.p.c } = e.p := by
  unfold State.flagsAfter
  split_ifs with hrti hwritten
  · simp only [Bool.and_eq_true, Bool.not_eq_true', decide_eq_true_eq] at hrti
    obtain ⟨⟨hentering, hop⟩, _⟩ := hrti
    rcases h with h | h
    · exact absurd (hentering.symm.trans h) (by decide)
    · exact absurd hop h
  · rfl
  · rfl

/-- What a step cut short of its whole leaves (R305, R351, log 12). -/
theorem cutAfter_of_lt {e u : State} {k : Nat} (h : k < (e.cyclesTo u).length) : e.cutAfter k u =
    { (((e.cyclesTo u).take k).foldl State.cycle e) with
      sp := e.stackAfter k
      p := e.flagsAfter k u
      nmiPending := e.nmiPending || e.nmiMid
      nmiMid := false
      rstLine := false
      rstMid := none } := by
  rcases cutAfter_cases e k u with ⟨hle, _⟩ | ⟨_, heq⟩
  · omega
  · exact heq

/-- Whole or not, a cut step leaves /RST low and no further fall to come. -/
theorem cutAfter_held (e : State) (k : Nat) (u : State) :
    (e.cutAfter k u).rstLine = false ∧ (e.cutAfter k u).rstMid = none := by
  rcases cutAfter_cases e k u with ⟨_, heq⟩ | ⟨_, heq⟩ <;> rw [heq] <;> exact ⟨rfl, rfl⟩

/-- Settles O57: the pins one by one, then the hold, then the two outcomes of a cut. -/
theorem pinEventsAct : Obligations.PinEventsAct := by
  refine ⟨fun _ _ => rfl, fun s => ?nmi, fun s => ?rst, fun _ _ => rfl, fun _ => step_of_held,
    fun _ _ _ => step_of_cut_refused, fun s u k hmid => ?cut⟩
  case nmi => cases hline : s.nmiLine <;> simp [State.pin, hline]
  case rst => cases hline : s.rstLine <;> simp [State.pin, hline]
  case cut =>
    intro e hwhole
    obtain ⟨hline, hnone⟩ := cutAfter_held e k u
    refine ⟨_, step_of_cut hmid hwhole, hline, hnone, fun hle => if_pos hle, fun hlt => ?_⟩
    have hbytes := cycles_byteAt ((e.cyclesTo u).take k) e
    rw [cutAfter_of_lt hlt]
    rw [cycles_eq] at hbytes ⊢
    exact ⟨rfl, hbytes, ⟨rfl, rfl, rfl, rfl⟩, rfl, rfl, flagsAfter_but_c k u, rfl, rfl, rfl, rfl, rfl, rfl, rfl, rfl⟩

end Sys2Proof.Machine
end
